-- ==== Sys2Proof/Word.lean ====
section
/-! DEFINITION. The plain bit-vector types of the machine: register words, bytes, instruction words and
register numbers. Nothing here is a meaning; it is vocabulary. -/
namespace Sys2Proof

/-- The content of an x register, the pc or an address. `XPRLEN` is 32 or 64 (R21, R24): a 64-bit vector holds
either, an RV32 value standing in the low 32 bits with zeros above. -/
abbrev Word := BitVec 64

/-- One byte of memory (R50). -/
abbrev Byte := BitVec 8

/-- A 32-bit instruction word (R12, R91). -/
abbrev InstWord := BitVec 32

/-- A 5-bit field that names one of x0 to x31 (R21, R92). -/
abbrev XReg := BitVec 5

/-- A 5-bit field that names one of f0 to f31 (R25, R92). -/
abbrev FReg := BitVec 5

/-- The three-bit rounding-mode field of a floating-point instruction (R100, R312). -/
abbrev RmField := BitVec 3

/-- A set of accrued exception flags, laid out as `fsr[4:0]`: NV DZ OF UF NX (R29, R313). -/
abbrev FlagSet := BitVec 5

/-- A floating-point pattern of either format; a single-precision pattern stands in the low 32 bits with zeros
above (R310). -/
abbrev FBits := BitVec 64

end Sys2Proof
end

