-- ==== Sys2Proof/Config.lean ====
section
/-! DEFINITION. What the implementation or the environment fixes (R5): the parameter types that a state carries, and
the free values, each an opaque constant with no body, so that no proof can see what it is. The counter oracle, whose
free values take the whole state, stands in `Machine/Oracle.lean`. -/
namespace Sys2Proof

/-- The variant of the base ISA, `XPRLEN` = 32 or 64 (R1, R24, D1). -/
inductive Xlen where
  | rv32
  | rv64
deriving DecidableEq, Repr

/-- `XPRLEN`, "the current width of an x register in bits" (R5, R24). -/
def Xlen.bits : Xlen → Nat
  | .rv32 => 32
  | .rv64 => 64

/-- The low `XPRLEN` bits of a word, zeros above: reduction modulo 2^XPRLEN (R8, R27, R63). -/
def Xlen.wrap (xl : Xlen) (w : Word) : Word :=
  match xl with
  | .rv32 => (w.setWidth 32).setWidth 64
  | .rv64 => w

/-- Byte order of the memory system (R51, D2). -/
inductive Endian where
  | little
  | big
deriving DecidableEq, Repr

/-- Kind of a memory access, the second argument of `MEM_VALID` (R62). -/
inductive AccessKind where
  | fetch
  | read
  | write
deriving DecidableEq, Repr

/-- One stretch of admitted byte addresses with the kinds of access it admits (R62). -/
structure Region where
  base  : Nat
  size  : Nat
  fetch : Bool
  read  : Bool
  write : Bool
deriving DecidableEq, Repr

/-- The parameters that are constant for a run (R5): `XPRLEN`, `ENDIAN`, and `MEM_VALID` as a list of regions. They
stand in the state, no instruction changes them, and every statement over all states is a statement over all of
their values. -/
structure Params where
  xlen     : Xlen
  endian   : Endian
  memValid : List Region
deriving DecidableEq, Repr

/-- Floating-point format, the `fmt` field of a base instruction (R310). -/
inductive Fmt where
  | s
  | d
deriving DecidableEq, Repr

/-- Integer side of a float/integer conversion: W, WU, L, LU (R370, R380). -/
inductive IntFmt where
  | w
  | wu
  | l
  | lu
deriving DecidableEq, Repr

namespace Config

/-- Free value: which of the admissible values of a stored-to parcel a fetch sees before the next FENCE.I
(R68, R504, U11, D30), given the draw counter and the parcel's address. -/
opaque fetchChoice : Nat → Nat → Nat

/-- Free value `FREG_CROSS_FORMAT`: what a single-precision read of a register last written as double gives, from the
draw counter, the register and its double pattern (R25, U9, D12). -/
opaque crossS : Nat → FReg → BitVec 64 → BitVec 32

/-- Free value `FREG_CROSS_FORMAT`: what a double-precision read of a register last written as single gives
(R25, U9, D12). -/
opaque crossD : Nat → FReg → BitVec 32 → BitVec 64

/-- Free value `FCVT_INVALID`: the integer an invalid float-to-integer conversion delivers, from the target, the
source format and the operand's pattern (R370, U17, D16). -/
opaque fcvtInvalid : IntFmt → Fmt → FBits → BitVec 64

/-- Free value `FCVT_WU_UPPER`: bits 63:32 of rd after FCVT.WU on RV64, from the source format and the 32-bit result
(R370, U18, D14). -/
opaque fcvtWuUpper : Fmt → BitVec 32 → BitVec 32

/-- Free value `TININESS`: true when tininess is detected before rounding (R317, U19, D17). -/
opaque tinyBeforeRounding : Bool

/-- Free value `FMINMAX_ZERO`: for FMIN (first argument false) or FMAX (true) of zeros of opposite sign in a format,
given the sign of the first operand, whether the first operand is delivered (R315, R327, U20, D18). -/
opaque zeroPickFirst : Bool → Fmt → Bool → Bool

/-- Free value `FMA_INVALID_QNAN_NV`: whether a fused multiply-add of 0 × ∞ with a quiet-NaN addend raises NV
(R342, U21, D21). -/
opaque fmaInvalidQnanNv : Bool

end Config
end Sys2Proof
end

