-- ==== Sys2Proof/Syntax.lean ====
section
/-! DEFINITION. The abstract syntax: one constructor for each of the 150 rows of the opcode table (R2, R108), its
operands the operand fields of the row's encoding, each of the width the encoding gives it. -/
namespace Sys2Proof

/-- The instructions of the base ISA. Register fields are numbers (R12), immediates are the encoded fields before any
extension or scaling (R102 to R105). FENCE and FENCE.I keep their ignored fields, so that an instruction and its
word determine each other (R113). -/
inductive Instr where
  /-- `LB rd,rs1,imm12` (R143). -/
  | lb (rd rs1 : XReg) (imm : BitVec 12)
  /-- `LH rd,rs1,imm12` (R144). -/
  | lh (rd rs1 : XReg) (imm : BitVec 12)
  /-- `LW rd,rs1,imm12` (R145). -/
  | lw (rd rs1 : XReg) (imm : BitVec 12)
  /-- `LD rd,rs1,imm12` (R146, RV64 only). -/
  | ld (rd rs1 : XReg) (imm : BitVec 12)
  /-- `LBU rd,rs1,imm12` (R147). -/
  | lbu (rd rs1 : XReg) (imm : BitVec 12)
  /-- `LHU rd,rs1,imm12` (R148). -/
  | lhu (rd rs1 : XReg) (imm : BitVec 12)
  /-- `LWU rd,rs1,imm12` (R149, RV64 only). -/
  | lwu (rd rs1 : XReg) (imm : BitVec 12)
  /-- `SB rs1,rs2,imm12` (R150). -/
  | sb (rs1 rs2 : XReg) (imm : BitVec 12)
  /-- `SH rs1,rs2,imm12` (R151). -/
  | sh (rs1 rs2 : XReg) (imm : BitVec 12)
  /-- `SW rs1,rs2,imm12` (R152). -/
  | sw (rs1 rs2 : XReg) (imm : BitVec 12)
  /-- `SD rs1,rs2,imm12` (R153, RV64 only). -/
  | sd (rs1 rs2 : XReg) (imm : BitVec 12)
  /-- `FLW rd,rs1,imm12` (R154). -/
  | flw (rd : FReg) (rs1 : XReg) (imm : BitVec 12)
  /-- `FLD rd,rs1,imm12` (R155). -/
  | fld (rd : FReg) (rs1 : XReg) (imm : BitVec 12)
  /-- `FSW rs1,rs2,imm12` (R156). -/
  | fsw (rs1 : XReg) (rs2 : FReg) (imm : BitVec 12)
  /-- `FSD rs1,rs2,imm12` (R157). -/
  | fsd (rs1 : XReg) (rs2 : FReg) (imm : BitVec 12)
  /-- `AMOADD.W rd,rs1,rs2` (R172). -/
  | amoaddW (rd rs1 rs2 : XReg)
  /-- `AMOSWAP.W rd,rs1,rs2` (R173). -/
  | amoswapW (rd rs1 rs2 : XReg)
  /-- `AMOAND.W rd,rs1,rs2` (R174). -/
  | amoandW (rd rs1 rs2 : XReg)
  /-- `AMOOR.W rd,rs1,rs2` (R175). -/
  | amoorW (rd rs1 rs2 : XReg)
  /-- `AMOMIN.W rd,rs1,rs2` (R176). -/
  | amominW (rd rs1 rs2 : XReg)
  /-- `AMOMAX.W rd,rs1,rs2` (R177). -/
  | amomaxW (rd rs1 rs2 : XReg)
  /-- `AMOMINU.W rd,rs1,rs2` (R178). -/
  | amominuW (rd rs1 rs2 : XReg)
  /-- `AMOMAXU.W rd,rs1,rs2` (R179). -/
  | amomaxuW (rd rs1 rs2 : XReg)
  /-- `AMOADD.D rd,rs1,rs2` (R180, RV64 only). -/
  | amoaddD (rd rs1 rs2 : XReg)
  /-- `AMOSWAP.D rd,rs1,rs2` (R181, RV64 only). -/
  | amoswapD (rd rs1 rs2 : XReg)
  /-- `AMOAND.D rd,rs1,rs2` (R182, RV64 only). -/
  | amoandD (rd rs1 rs2 : XReg)
  /-- `AMOOR.D rd,rs1,rs2` (R183, RV64 only). -/
  | amoorD (rd rs1 rs2 : XReg)
  /-- `AMOMIN.D rd,rs1,rs2` (R184, RV64 only). -/
  | amominD (rd rs1 rs2 : XReg)
  /-- `AMOMAX.D rd,rs1,rs2` (R185, RV64 only). -/
  | amomaxD (rd rs1 rs2 : XReg)
  /-- `AMOMINU.D rd,rs1,rs2` (R186, RV64 only). -/
  | amominuD (rd rs1 rs2 : XReg)
  /-- `AMOMAXU.D rd,rs1,rs2` (R187, RV64 only). -/
  | amomaxuD (rd rs1 rs2 : XReg)
  /-- `ADDI rd,rs1,imm12` (R201). -/
  | addi (rd rs1 : XReg) (imm : BitVec 12)
  /-- `SLTI rd,rs1,imm12` (R202). -/
  | slti (rd rs1 : XReg) (imm : BitVec 12)
  /-- `SLTIU rd,rs1,imm12` (R203). -/
  | sltiu (rd rs1 : XReg) (imm : BitVec 12)
  /-- `ANDI rd,rs1,imm12` (R204). -/
  | andi (rd rs1 : XReg) (imm : BitVec 12)
  /-- `ORI rd,rs1,imm12` (R205). -/
  | ori (rd rs1 : XReg) (imm : BitVec 12)
  /-- `XORI rd,rs1,imm12` (R206). -/
  | xori (rd rs1 : XReg) (imm : BitVec 12)
  /-- `SLLI rd,rs1,shamt` (R208). -/
  | slli (rd rs1 : XReg) (shamt : BitVec 6)
  /-- `SRLI rd,rs1,shamt` (R209). -/
  | srli (rd rs1 : XReg) (shamt : BitVec 6)
  /-- `SRAI rd,rs1,shamt` (R210). -/
  | srai (rd rs1 : XReg) (shamt : BitVec 6)
  /-- `LUI rd,imm20` (R211). -/
  | lui (rd : XReg) (imm : BitVec 20)
  /-- `ADDIW rd,rs1,imm12` (R212, RV64 only). -/
  | addiw (rd rs1 : XReg) (imm : BitVec 12)
  /-- `SLLIW rd,rs1,shamtw` (R213, RV64 only). -/
  | slliw (rd rs1 : XReg) (shamtw : BitVec 5)
  /-- `SRLIW rd,rs1,shamtw` (R214, RV64 only). -/
  | srliw (rd rs1 : XReg) (shamtw : BitVec 5)
  /-- `SRAIW rd,rs1,shamtw` (R215, RV64 only). -/
  | sraiw (rd rs1 : XReg) (shamtw : BitVec 5)
  /-- `ADD rd,rs1,rs2` (R231). -/
  | add (rd rs1 rs2 : XReg)
  /-- `SUB rd,rs1,rs2` (R232). -/
  | sub (rd rs1 rs2 : XReg)
  /-- `SLT rd,rs1,rs2` (R233). -/
  | slt (rd rs1 rs2 : XReg)
  /-- `SLTU rd,rs1,rs2` (R234). -/
  | sltu (rd rs1 rs2 : XReg)
  /-- `AND rd,rs1,rs2` (R235). -/
  | and (rd rs1 rs2 : XReg)
  /-- `OR rd,rs1,rs2` (R236). -/
  | or (rd rs1 rs2 : XReg)
  /-- `XOR rd,rs1,rs2` (R237). -/
  | xor (rd rs1 rs2 : XReg)
  /-- `SLL rd,rs1,rs2` (R238). -/
  | sll (rd rs1 rs2 : XReg)
  /-- `SRL rd,rs1,rs2` (R239). -/
  | srl (rd rs1 rs2 : XReg)
  /-- `SRA rd,rs1,rs2` (R240). -/
  | sra (rd rs1 rs2 : XReg)
  /-- `ADDW rd,rs1,rs2` (R241, RV64 only). -/
  | addw (rd rs1 rs2 : XReg)
  /-- `SUBW rd,rs1,rs2` (R242, RV64 only). -/
  | subw (rd rs1 rs2 : XReg)
  /-- `SLLW rd,rs1,rs2` (R243, RV64 only). -/
  | sllw (rd rs1 rs2 : XReg)
  /-- `SRLW rd,rs1,rs2` (R244, RV64 only). -/
  | srlw (rd rs1 rs2 : XReg)
  /-- `SRAW rd,rs1,rs2` (R245, RV64 only). -/
  | sraw (rd rs1 rs2 : XReg)
  /-- `MUL rd,rs1,rs2` (R247). -/
  | mul (rd rs1 rs2 : XReg)
  /-- `MULH rd,rs1,rs2` (R248). -/
  | mulh (rd rs1 rs2 : XReg)
  /-- `MULHU rd,rs1,rs2` (R249). -/
  | mulhu (rd rs1 rs2 : XReg)
  /-- `MULHSU rd,rs1,rs2` (R250). -/
  | mulhsu (rd rs1 rs2 : XReg)
  /-- `MULW rd,rs1,rs2` (R251, RV64 only). -/
  | mulw (rd rs1 rs2 : XReg)
  /-- `DIV rd,rs1,rs2` (R253). -/
  | div (rd rs1 rs2 : XReg)
  /-- `DIVU rd,rs1,rs2` (R254). -/
  | divu (rd rs1 rs2 : XReg)
  /-- `REM rd,rs1,rs2` (R255). -/
  | rem (rd rs1 rs2 : XReg)
  /-- `REMU rd,rs1,rs2` (R256). -/
  | remu (rd rs1 rs2 : XReg)
  /-- `DIVW rd,rs1,rs2` (R257, RV64 only). -/
  | divw (rd rs1 rs2 : XReg)
  /-- `DIVUW rd,rs1,rs2` (R258, RV64 only). -/
  | divuw (rd rs1 rs2 : XReg)
  /-- `REMW rd,rs1,rs2` (R259, RV64 only). -/
  | remw (rd rs1 rs2 : XReg)
  /-- `REMUW rd,rs1,rs2` (R260, RV64 only). -/
  | remuw (rd rs1 rs2 : XReg)
  /-- `J imm25` (R281). -/
  | j (off : BitVec 25)
  /-- `JAL imm25` (R282). -/
  | jal (off : BitVec 25)
  /-- `JALR.C rd,rs1,imm12` (R284). -/
  | jalrC (rd rs1 : XReg) (imm : BitVec 12)
  /-- `JALR.R rd,rs1,imm12` (R285). -/
  | jalrR (rd rs1 : XReg) (imm : BitVec 12)
  /-- `JALR.J rd,rs1,imm12` (R286). -/
  | jalrJ (rd rs1 : XReg) (imm : BitVec 12)
  /-- `RDNPC rd` (R287). -/
  | rdnpc (rd : XReg)
  /-- `BEQ rs1,rs2,imm12` (R289). -/
  | beq (rs1 rs2 : XReg) (imm : BitVec 12)
  /-- `BNE rs1,rs2,imm12` (R290). -/
  | bne (rs1 rs2 : XReg) (imm : BitVec 12)
  /-- `BLT rs1,rs2,imm12` (R291). -/
  | blt (rs1 rs2 : XReg) (imm : BitVec 12)
  /-- `BGE rs1,rs2,imm12` (R292). -/
  | bge (rs1 rs2 : XReg) (imm : BitVec 12)
  /-- `BLTU rs1,rs2,imm12` (R293). -/
  | bltu (rs1 rs2 : XReg) (imm : BitVec 12)
  /-- `BGEU rs1,rs2,imm12` (R294). -/
  | bgeu (rs1 rs2 : XReg) (imm : BitVec 12)
  /-- `FADD.S rd,rs1,rs2[,rm]` (R322). -/
  | faddS (rd rs1 rs2 : FReg) (rm : RmField)
  /-- `FSUB.S rd,rs1,rs2[,rm]` (R323). -/
  | fsubS (rd rs1 rs2 : FReg) (rm : RmField)
  /-- `FMUL.S rd,rs1,rs2[,rm]` (R324). -/
  | fmulS (rd rs1 rs2 : FReg) (rm : RmField)
  /-- `FDIV.S rd,rs1,rs2[,rm]` (R325). -/
  | fdivS (rd rs1 rs2 : FReg) (rm : RmField)
  /-- `FSQRT.S rd,rs1[,rm]` (R326). -/
  | fsqrtS (rd rs1 : FReg) (rm : RmField)
  /-- `FMIN.S rd,rs1,rs2` (R327). -/
  | fminS (rd rs1 rs2 : FReg)
  /-- `FMAX.S rd,rs1,rs2` (R328). -/
  | fmaxS (rd rs1 rs2 : FReg)
  /-- `FADD.D rd,rs1,rs2[,rm]` (R329). -/
  | faddD (rd rs1 rs2 : FReg) (rm : RmField)
  /-- `FSUB.D rd,rs1,rs2[,rm]` (R330). -/
  | fsubD (rd rs1 rs2 : FReg) (rm : RmField)
  /-- `FMUL.D rd,rs1,rs2[,rm]` (R331). -/
  | fmulD (rd rs1 rs2 : FReg) (rm : RmField)
  /-- `FDIV.D rd,rs1,rs2[,rm]` (R332). -/
  | fdivD (rd rs1 rs2 : FReg) (rm : RmField)
  /-- `FSQRT.D rd,rs1[,rm]` (R333). -/
  | fsqrtD (rd rs1 : FReg) (rm : RmField)
  /-- `FMIN.D rd,rs1,rs2` (R334). -/
  | fminD (rd rs1 rs2 : FReg)
  /-- `FMAX.D rd,rs1,rs2` (R335). -/
  | fmaxD (rd rs1 rs2 : FReg)
  /-- `FMADD.S rd,rs1,rs2,rs3[,rm]` (R336). -/
  | fmaddS (rd rs1 rs2 rs3 : FReg) (rm : RmField)
  /-- `FMSUB.S rd,rs1,rs2,rs3[,rm]` (R337). -/
  | fmsubS (rd rs1 rs2 rs3 : FReg) (rm : RmField)
  /-- `FNMSUB.S rd,rs1,rs2,rs3[,rm]` (R338). -/
  | fnmsubS (rd rs1 rs2 rs3 : FReg) (rm : RmField)
  /-- `FNMADD.S rd,rs1,rs2,rs3[,rm]` (R339). -/
  | fnmaddS (rd rs1 rs2 rs3 : FReg) (rm : RmField)
  /-- `FMADD.D rd,rs1,rs2,rs3[,rm]` (R340). -/
  | fmaddD (rd rs1 rs2 rs3 : FReg) (rm : RmField)
  /-- `FMSUB.D rd,rs1,rs2,rs3[,rm]` (R341). -/
  | fmsubD (rd rs1 rs2 rs3 : FReg) (rm : RmField)
  /-- `FNMSUB.D rd,rs1,rs2,rs3[,rm]` (R343). -/
  | fnmsubD (rd rs1 rs2 rs3 : FReg) (rm : RmField)
  /-- `FNMADD.D rd,rs1,rs2,rs3[,rm]` (R344). -/
  | fnmaddD (rd rs1 rs2 rs3 : FReg) (rm : RmField)
  /-- `FCVT.L.S rd,rs1[,rm]` (R371, RV64 only). -/
  | fcvtLS (rd : XReg) (rs1 : FReg) (rm : RmField)
  /-- `FCVT.LU.S rd,rs1[,rm]` (R372, RV64 only). -/
  | fcvtLuS (rd : XReg) (rs1 : FReg) (rm : RmField)
  /-- `FCVT.W.S rd,rs1[,rm]` (R373). -/
  | fcvtWS (rd : XReg) (rs1 : FReg) (rm : RmField)
  /-- `FCVT.WU.S rd,rs1[,rm]` (R374). -/
  | fcvtWuS (rd : XReg) (rs1 : FReg) (rm : RmField)
  /-- `FCVT.L.D rd,rs1[,rm]` (R375, RV64 only). -/
  | fcvtLD (rd : XReg) (rs1 : FReg) (rm : RmField)
  /-- `FCVT.LU.D rd,rs1[,rm]` (R376, RV64 only). -/
  | fcvtLuD (rd : XReg) (rs1 : FReg) (rm : RmField)
  /-- `FCVT.W.D rd,rs1[,rm]` (R377). -/
  | fcvtWD (rd : XReg) (rs1 : FReg) (rm : RmField)
  /-- `FCVT.WU.D rd,rs1[,rm]` (R378). -/
  | fcvtWuD (rd : XReg) (rs1 : FReg) (rm : RmField)
  /-- `FCVT.S.L rd,rs1[,rm]` (R379, RV64 only). -/
  | fcvtSL (rd : FReg) (rs1 : XReg) (rm : RmField)
  /-- `FCVT.S.LU rd,rs1[,rm]` (R381, RV64 only). -/
  | fcvtSLu (rd : FReg) (rs1 : XReg) (rm : RmField)
  /-- `FCVT.S.W rd,rs1[,rm]` (R382). -/
  | fcvtSW (rd : FReg) (rs1 : XReg) (rm : RmField)
  /-- `FCVT.S.WU rd,rs1[,rm]` (R383). -/
  | fcvtSWu (rd : FReg) (rs1 : XReg) (rm : RmField)
  /-- `FCVT.D.L rd,rs1[,rm]` (R384, RV64 only). -/
  | fcvtDL (rd : FReg) (rs1 : XReg) (rm : RmField)
  /-- `FCVT.D.LU rd,rs1[,rm]` (R385, RV64 only). -/
  | fcvtDLu (rd : FReg) (rs1 : XReg) (rm : RmField)
  /-- `FCVT.D.W rd,rs1[,rm]` (R386). -/
  | fcvtDW (rd : FReg) (rs1 : XReg) (rm : RmField)
  /-- `FCVT.D.WU rd,rs1[,rm]` (R387). -/
  | fcvtDWu (rd : FReg) (rs1 : XReg) (rm : RmField)
  /-- `FCVT.S.D rd,rs1[,rm]` (R388). -/
  | fcvtSD (rd rs1 : FReg) (rm : RmField)
  /-- `FCVT.D.S rd,rs1[,rm]` (R389). -/
  | fcvtDS (rd rs1 : FReg) (rm : RmField)
  /-- `FSGNJ.S rd,rs1,rs2` (R391). -/
  | fsgnjS (rd rs1 rs2 : FReg)
  /-- `FSGNJN.S rd,rs1,rs2` (R392). -/
  | fsgnjnS (rd rs1 rs2 : FReg)
  /-- `FSGNJX.S rd,rs1,rs2` (R393). -/
  | fsgnjxS (rd rs1 rs2 : FReg)
  /-- `FSGNJ.D rd,rs1,rs2` (R394). -/
  | fsgnjD (rd rs1 rs2 : FReg)
  /-- `FSGNJN.D rd,rs1,rs2` (R409). -/
  | fsgnjnD (rd rs1 rs2 : FReg)
  /-- `FSGNJX.D rd,rs1,rs2` (R410). -/
  | fsgnjxD (rd rs1 rs2 : FReg)
  /-- `MFTX.S rd,rs2` (R395). -/
  | mftxS (rd : XReg) (rs2 : FReg)
  /-- `MFTX.D rd,rs2` (R396, RV64 only). -/
  | mftxD (rd : XReg) (rs2 : FReg)
  /-- `MXTF.S rd,rs1` (R397). -/
  | mxtfS (rd : FReg) (rs1 : XReg)
  /-- `MXTF.D rd,rs1` (R398, RV64 only). -/
  | mxtfD (rd : FReg) (rs1 : XReg)
  /-- `MFFSR rd` (R399). -/
  | mffsr (rd : XReg)
  /-- `MTFSR rd,rs1` (R400). -/
  | mtfsr (rd rs1 : XReg)
  /-- `FEQ.S rd,rs1,rs2` (R402). -/
  | feqS (rd : XReg) (rs1 rs2 : FReg)
  /-- `FLT.S rd,rs1,rs2` (R403). -/
  | fltS (rd : XReg) (rs1 rs2 : FReg)
  /-- `FLE.S rd,rs1,rs2` (R404). -/
  | fleS (rd : XReg) (rs1 rs2 : FReg)
  /-- `FEQ.D rd,rs1,rs2` (R405). -/
  | feqD (rd : XReg) (rs1 rs2 : FReg)
  /-- `FLT.D rd,rs1,rs2` (R406). -/
  | fltD (rd : XReg) (rs1 rs2 : FReg)
  /-- `FLE.D rd,rs1,rs2` (R407). -/
  | fleD (rd : XReg) (rs1 rs2 : FReg)
  /-- `FENCE rd,rs1,imm12` (R430). -/
  | fence (rd rs1 : BitVec 5) (imm : BitVec 12)
  /-- `FENCE.I rd,rs1,imm12` (R431). -/
  | fenceI (rd rs1 : BitVec 5) (imm : BitVec 12)
  /-- `SYSCALL` (R441). -/
  | syscall
  /-- `BREAK` (R442). -/
  | brk
  /-- `RDCYCLE rd` (R443). -/
  | rdcycle (rd : XReg)
  /-- `RDTIME rd` (R444). -/
  | rdtime (rd : XReg)
  /-- `RDINSTRET rd` (R445). -/
  | rdinstret (rd : XReg)
deriving DecidableEq, Repr

end Sys2Proof
end

