-- ==== Sys2Proof/Decode.lean ====
section
/-! DEFINITION. Decoding and encoding of instruction words (R90 to R118), the byte image of a word in memory (R54),
and the host's view of the decoder. The decoder is total: a word that no row of the opcode table matches is refused
with a reason. The variant (R112) and the rounding mode (R114) are judged where the instruction runs. -/
namespace Sys2Proof

/-- Why a word is no base instruction (R109 to R111, R318). -/
inductive DecodeError where
  /-- `inst[1:0]` is not 11: a compressed encoding (R110). -/
  | compressed
  /-- `inst[4:0]` is 11111: an encoding longer than 32 bits (R111). -/
  | longer
  /-- The major opcode is an empty cell of the opcode map (R107, R109). -/
  | unassignedOpcode
  /-- A function field, or a field that the row prints as a constant, holds another value (R109). -/
  | unassignedFunction
  /-- The `fmt` field is 10 or 11 (R318). -/
  | reservedFmt
  /-- There are not four bytes to decode. -/
  | truncated
deriving DecidableEq, Repr

/-! ### Fields (R12) -/

def opcodeF (w : InstWord) : BitVec 7 := w.extractLsb' 0 7
def funct3F (w : InstWord) : BitVec 3 := w.extractLsb' 7 3
def funct7F (w : InstWord) : BitVec 7 := w.extractLsb' 10 7
def funct10F (w : InstWord) : BitVec 10 := w.extractLsb' 7 10
def rdF (w : InstWord) : BitVec 5 := w.extractLsb' 27 5
def rs1F (w : InstWord) : BitVec 5 := w.extractLsb' 22 5
def rs2F (w : InstWord) : BitVec 5 := w.extractLsb' 17 5
def rs3F (w : InstWord) : BitVec 5 := w.extractLsb' 12 5
/-- `funct5` of the floating-point R-type (R100). -/
def funct5F (w : InstWord) : BitVec 5 := w.extractLsb' 12 5
def rmF (w : InstWord) : RmField := w.extractLsb' 9 3
def fmtF (w : InstWord) : BitVec 2 := w.extractLsb' 7 2
/-- I-type immediate (R102). -/
def iImmF (w : InstWord) : BitVec 12 := w.extractLsb' 10 12
/-- B-type immediate, its upper five bits in `inst[31:27]` and its lower seven in `inst[16:10]` (R103). -/
def bImmF (w : InstWord) : BitVec 12 := w.extractLsb' 27 5 ++ w.extractLsb' 10 7
/-- L-type immediate (R104). -/
def imm20F (w : InstWord) : BitVec 20 := w.extractLsb' 7 20
/-- J-type offset (R105). -/
def off25F (w : InstWord) : BitVec 25 := w.extractLsb' 7 25
/-- Shift amount of SLLI, SRLI, SRAI (R99). -/
def shamtF (w : InstWord) : BitVec 6 := w.extractLsb' 10 6
/-- The bits above that shift amount, `imm[11:6]` (R99). -/
def shiftHiF (w : InstWord) : BitVec 6 := w.extractLsb' 16 6
/-- Shift amount of the W shifts (R99). -/
def shamtwF (w : InstWord) : BitVec 5 := w.extractLsb' 10 5
/-- The bits above that shift amount, `imm[11:5]` (R99). -/
def shiftHiWF (w : InstWord) : BitVec 7 := w.extractLsb' 15 7

/-! ### Decoding (R107, R108) -/

/-- LOAD: `funct3` is the width (R108, R158). -/
def decodeLoad (w : InstWord) : Except DecodeError Instr :=
  match funct3F w with
  | 0b000#3 => .ok (.lb (rdF w) (rs1F w) (iImmF w))
  | 0b001#3 => .ok (.lh (rdF w) (rs1F w) (iImmF w))
  | 0b010#3 => .ok (.lw (rdF w) (rs1F w) (iImmF w))
  | 0b011#3 => .ok (.ld (rdF w) (rs1F w) (iImmF w))
  | 0b100#3 => .ok (.lbu (rdF w) (rs1F w) (iImmF w))
  | 0b101#3 => .ok (.lhu (rdF w) (rs1F w) (iImmF w))
  | 0b110#3 => .ok (.lwu (rdF w) (rs1F w) (iImmF w))
  | _ => .error .unassignedFunction

/-- LOAD-FP (R108, R158). -/
def decodeLoadFp (w : InstWord) : Except DecodeError Instr :=
  match funct3F w with
  | 0b010#3 => .ok (.flw (rdF w) (rs1F w) (iImmF w))
  | 0b011#3 => .ok (.fld (rdF w) (rs1F w) (iImmF w))
  | _ => .error .unassignedFunction

/-- STORE (R108, R158). -/
def decodeStore (w : InstWord) : Except DecodeError Instr :=
  match funct3F w with
  | 0b000#3 => .ok (.sb (rs1F w) (rs2F w) (bImmF w))
  | 0b001#3 => .ok (.sh (rs1F w) (rs2F w) (bImmF w))
  | 0b010#3 => .ok (.sw (rs1F w) (rs2F w) (bImmF w))
  | 0b011#3 => .ok (.sd (rs1F w) (rs2F w) (bImmF w))
  | _ => .error .unassignedFunction

/-- STORE-FP (R108, R158). -/
def decodeStoreFp (w : InstWord) : Except DecodeError Instr :=
  match funct3F w with
  | 0b010#3 => .ok (.fsw (rs1F w) (rs2F w) (bImmF w))
  | 0b011#3 => .ok (.fsd (rs1F w) (rs2F w) (bImmF w))
  | _ => .error .unassignedFunction

/-- AMO: `funct10` is the operation and the width (R101, R188). -/
def decodeAmo (w : InstWord) : Except DecodeError Instr :=
  match funct10F w with
  | 0b0000000010#10 => .ok (.amoaddW (rdF w) (rs1F w) (rs2F w))
  | 0b0000001010#10 => .ok (.amoswapW (rdF w) (rs1F w) (rs2F w))
  | 0b0000010010#10 => .ok (.amoandW (rdF w) (rs1F w) (rs2F w))
  | 0b0000011010#10 => .ok (.amoorW (rdF w) (rs1F w) (rs2F w))
  | 0b0000100010#10 => .ok (.amominW (rdF w) (rs1F w) (rs2F w))
  | 0b0000101010#10 => .ok (.amomaxW (rdF w) (rs1F w) (rs2F w))
  | 0b0000110010#10 => .ok (.amominuW (rdF w) (rs1F w) (rs2F w))
  | 0b0000111010#10 => .ok (.amomaxuW (rdF w) (rs1F w) (rs2F w))
  | 0b0000000011#10 => .ok (.amoaddD (rdF w) (rs1F w) (rs2F w))
  | 0b0000001011#10 => .ok (.amoswapD (rdF w) (rs1F w) (rs2F w))
  | 0b0000010011#10 => .ok (.amoandD (rdF w) (rs1F w) (rs2F w))
  | 0b0000011011#10 => .ok (.amoorD (rdF w) (rs1F w) (rs2F w))
  | 0b0000100011#10 => .ok (.amominD (rdF w) (rs1F w) (rs2F w))
  | 0b0000101011#10 => .ok (.amomaxD (rdF w) (rs1F w) (rs2F w))
  | 0b0000110011#10 => .ok (.amominuD (rdF w) (rs1F w) (rs2F w))
  | 0b0000111011#10 => .ok (.amomaxuD (rdF w) (rs1F w) (rs2F w))
  | _ => .error .unassignedFunction

/-- OP (R108, R261). -/
def decodeOp (w : InstWord) : Except DecodeError Instr :=
  match funct10F w with
  | 0b0000000000#10 => .ok (.add (rdF w) (rs1F w) (rs2F w))
  | 0b1000000000#10 => .ok (.sub (rdF w) (rs1F w) (rs2F w))
  | 0b0000000010#10 => .ok (.slt (rdF w) (rs1F w) (rs2F w))
  | 0b0000000011#10 => .ok (.sltu (rdF w) (rs1F w) (rs2F w))
  | 0b0000000111#10 => .ok (.and (rdF w) (rs1F w) (rs2F w))
  | 0b0000000110#10 => .ok (.or (rdF w) (rs1F w) (rs2F w))
  | 0b0000000100#10 => .ok (.xor (rdF w) (rs1F w) (rs2F w))
  | 0b0000000001#10 => .ok (.sll (rdF w) (rs1F w) (rs2F w))
  | 0b0000000101#10 => .ok (.srl (rdF w) (rs1F w) (rs2F w))
  | 0b1000000101#10 => .ok (.sra (rdF w) (rs1F w) (rs2F w))
  | 0b0000001000#10 => .ok (.mul (rdF w) (rs1F w) (rs2F w))
  | 0b0000001001#10 => .ok (.mulh (rdF w) (rs1F w) (rs2F w))
  | 0b0000001011#10 => .ok (.mulhu (rdF w) (rs1F w) (rs2F w))
  | 0b0000001010#10 => .ok (.mulhsu (rdF w) (rs1F w) (rs2F w))
  | 0b0000001100#10 => .ok (.div (rdF w) (rs1F w) (rs2F w))
  | 0b0000001101#10 => .ok (.divu (rdF w) (rs1F w) (rs2F w))
  | 0b0000001110#10 => .ok (.rem (rdF w) (rs1F w) (rs2F w))
  | 0b0000001111#10 => .ok (.remu (rdF w) (rs1F w) (rs2F w))
  | _ => .error .unassignedFunction

/-- OP-32 (R108, R261). -/
def decodeOp32 (w : InstWord) : Except DecodeError Instr :=
  match funct10F w with
  | 0b0000000000#10 => .ok (.addw (rdF w) (rs1F w) (rs2F w))
  | 0b1000000000#10 => .ok (.subw (rdF w) (rs1F w) (rs2F w))
  | 0b0000000001#10 => .ok (.sllw (rdF w) (rs1F w) (rs2F w))
  | 0b0000000101#10 => .ok (.srlw (rdF w) (rs1F w) (rs2F w))
  | 0b1000000101#10 => .ok (.sraw (rdF w) (rs1F w) (rs2F w))
  | 0b0000001000#10 => .ok (.mulw (rdF w) (rs1F w) (rs2F w))
  | 0b0000001100#10 => .ok (.divw (rdF w) (rs1F w) (rs2F w))
  | 0b0000001101#10 => .ok (.divuw (rdF w) (rs1F w) (rs2F w))
  | 0b0000001110#10 => .ok (.remw (rdF w) (rs1F w) (rs2F w))
  | 0b0000001111#10 => .ok (.remuw (rdF w) (rs1F w) (rs2F w))
  | _ => .error .unassignedFunction

/-- BRANCH (R108, R296). -/
def decodeBranch (w : InstWord) : Except DecodeError Instr :=
  match funct3F w with
  | 0b000#3 => .ok (.beq (rs1F w) (rs2F w) (bImmF w))
  | 0b001#3 => .ok (.bne (rs1F w) (rs2F w) (bImmF w))
  | 0b100#3 => .ok (.blt (rs1F w) (rs2F w) (bImmF w))
  | 0b101#3 => .ok (.bge (rs1F w) (rs2F w) (bImmF w))
  | 0b110#3 => .ok (.bltu (rs1F w) (rs2F w) (bImmF w))
  | 0b111#3 => .ok (.bgeu (rs1F w) (rs2F w) (bImmF w))
  | _ => .error .unassignedFunction

/-- MISC-MEM: bits 31:10 are ignored (R113, R432). -/
def decodeMiscMem (w : InstWord) : Except DecodeError Instr :=
  match funct3F w with
  | 0b010#3 => .ok (.fence (rdF w) (rs1F w) (iImmF w))
  | 0b001#3 => .ok (.fenceI (rdF w) (rs1F w) (iImmF w))
  | _ => .error .unassignedFunction

/-- The right shifts of OP-IMM: `inst[21:16]` tells SRLI from SRAI (R99, R216). -/
def decodeShiftRight (w : InstWord) : Except DecodeError Instr :=
  match shiftHiF w with
  | 0b000000#6 => .ok (.srli (rdF w) (rs1F w) (shamtF w))
  | 0b000001#6 => .ok (.srai (rdF w) (rs1F w) (shamtF w))
  | _ => .error .unassignedFunction

/-- SLLI: `inst[21:16]` is zero (R99, R216). -/
def decodeShiftLeft (w : InstWord) : Except DecodeError Instr :=
  match shiftHiF w with
  | 0b000000#6 => .ok (.slli (rdF w) (rs1F w) (shamtF w))
  | _ => .error .unassignedFunction

/-- OP-IMM (R108, R216). -/
def decodeOpImm (w : InstWord) : Except DecodeError Instr :=
  match funct3F w with
  | 0b000#3 => .ok (.addi (rdF w) (rs1F w) (iImmF w))
  | 0b001#3 => decodeShiftLeft w
  | 0b010#3 => .ok (.slti (rdF w) (rs1F w) (iImmF w))
  | 0b011#3 => .ok (.sltiu (rdF w) (rs1F w) (iImmF w))
  | 0b100#3 => .ok (.xori (rdF w) (rs1F w) (iImmF w))
  | 0b101#3 => decodeShiftRight w
  | 0b110#3 => .ok (.ori (rdF w) (rs1F w) (iImmF w))
  | 0b111#3 => .ok (.andi (rdF w) (rs1F w) (iImmF w))
  | _ => .error .unassignedFunction

/-- The right shifts of OP-IMM-32: `inst[21:15]` tells SRLIW from SRAIW (R99, R216). -/
def decodeShiftRightW (w : InstWord) : Except DecodeError Instr :=
  match shiftHiWF w with
  | 0b0000000#7 => .ok (.srliw (rdF w) (rs1F w) (shamtwF w))
  | 0b0000010#7 => .ok (.sraiw (rdF w) (rs1F w) (shamtwF w))
  | _ => .error .unassignedFunction

/-- SLLIW: `inst[21:15]` is zero (R99, R216). -/
def decodeShiftLeftW (w : InstWord) : Except DecodeError Instr :=
  match shiftHiWF w with
  | 0b0000000#7 => .ok (.slliw (rdF w) (rs1F w) (shamtwF w))
  | _ => .error .unassignedFunction

/-- OP-IMM-32 (R108, R216). -/
def decodeOpImm32 (w : InstWord) : Except DecodeError Instr :=
  match funct3F w with
  | 0b000#3 => .ok (.addiw (rdF w) (rs1F w) (iImmF w))
  | 0b001#3 => decodeShiftLeftW w
  | 0b101#3 => decodeShiftRightW w
  | _ => .error .unassignedFunction

/-- RDNPC: the rs1 and imm12 fields are constant zero (R287, R296). -/
def decodeRdnpc (w : InstWord) : Except DecodeError Instr :=
  match rs1F w, iImmF w with
  | 0#5, 0#12 => .ok (.rdnpc (rdF w))
  | _, _ => .error .unassignedFunction

/-- JALR: `funct3` is the hint, or RDNPC (R108, R296). -/
def decodeJalr (w : InstWord) : Except DecodeError Instr :=
  match funct3F w with
  | 0b000#3 => .ok (.jalrC (rdF w) (rs1F w) (iImmF w))
  | 0b001#3 => .ok (.jalrR (rdF w) (rs1F w) (iImmF w))
  | 0b010#3 => .ok (.jalrJ (rdF w) (rs1F w) (iImmF w))
  | 0b100#3 => decodeRdnpc w
  | _ => .error .unassignedFunction

/-- SYSCALL and BREAK: the rd field is constant zero (R441, R442, R446). -/
def decodeCall (w : InstWord) (i : Instr) : Except DecodeError Instr :=
  match rdF w with
  | 0#5 => .ok i
  | _ => .error .unassignedFunction

/-- The five SYSTEM instructions, by `funct10` (R440 to R446). -/
def decodeSystemFunct (w : InstWord) : Except DecodeError Instr :=
  match funct10F w with
  | 0b0000000000#10 => decodeCall w .syscall
  | 0b0000000001#10 => decodeCall w .brk
  | 0b0000000100#10 => .ok (.rdcycle (rdF w))
  | 0b0000001100#10 => .ok (.rdtime (rdF w))
  | 0b0000010100#10 => .ok (.rdinstret (rdF w))
  | _ => .error .unassignedFunction

/-- SYSTEM: the rs1 and rs2 fields are constant zero (R440, R446). -/
def decodeSystem (w : InstWord) : Except DecodeError Instr :=
  match rs1F w, rs2F w with
  | 0#5, 0#5 => decodeSystemFunct w
  | _, _ => .error .unassignedFunction

/-- MADD: `fmt` 10 and 11 are reserved (R108, R318). -/
def decodeMadd (w : InstWord) : Except DecodeError Instr :=
  match fmtF w with
  | 0b00#2 => .ok (.fmaddS (rdF w) (rs1F w) (rs2F w) (rs3F w) (rmF w))
  | 0b01#2 => .ok (.fmaddD (rdF w) (rs1F w) (rs2F w) (rs3F w) (rmF w))
  | _ => .error .reservedFmt

/-- MSUB: `fmt` 10 and 11 are reserved (R108, R318). -/
def decodeMsub (w : InstWord) : Except DecodeError Instr :=
  match fmtF w with
  | 0b00#2 => .ok (.fmsubS (rdF w) (rs1F w) (rs2F w) (rs3F w) (rmF w))
  | 0b01#2 => .ok (.fmsubD (rdF w) (rs1F w) (rs2F w) (rs3F w) (rmF w))
  | _ => .error .reservedFmt

/-- NMSUB: `fmt` 10 and 11 are reserved (R108, R318). -/
def decodeNmsub (w : InstWord) : Except DecodeError Instr :=
  match fmtF w with
  | 0b00#2 => .ok (.fnmsubS (rdF w) (rs1F w) (rs2F w) (rs3F w) (rmF w))
  | 0b01#2 => .ok (.fnmsubD (rdF w) (rs1F w) (rs2F w) (rs3F w) (rmF w))
  | _ => .error .reservedFmt

/-- NMADD: `fmt` 10 and 11 are reserved (R108, R318). -/
def decodeNmadd (w : InstWord) : Except DecodeError Instr :=
  match fmtF w with
  | 0b00#2 => .ok (.fnmaddS (rdF w) (rs1F w) (rs2F w) (rs3F w) (rmF w))
  | 0b01#2 => .ok (.fnmaddD (rdF w) (rs1F w) (rs2F w) (rs3F w) (rmF w))
  | _ => .error .reservedFmt

/-- A row that needs a register field to be the constant zero (R109, R408). -/
def needZero (f : BitVec 5) (i : Instr) : Except DecodeError Instr :=
  match f with
  | 0#5 => .ok i
  | _ => .error .unassignedFunction

/-- A row that needs the `rm` field to be the constant 000 (R312, R408). -/
def needRm0 (w : InstWord) (r : Except DecodeError Instr) : Except DecodeError Instr :=
  match rmF w with
  | 0b000#3 => r
  | _ => .error .unassignedFunction

/-- OP-FP with `fmt` 00 (R108, R408). -/
def decodeOpFpS (w : InstWord) : Except DecodeError Instr :=
  match funct5F w with
  | 0b00000#5 => .ok (.faddS (rdF w) (rs1F w) (rs2F w) (rmF w))
  | 0b00001#5 => .ok (.fsubS (rdF w) (rs1F w) (rs2F w) (rmF w))
  | 0b00010#5 => .ok (.fmulS (rdF w) (rs1F w) (rs2F w) (rmF w))
  | 0b00011#5 => .ok (.fdivS (rdF w) (rs1F w) (rs2F w) (rmF w))
  | 0b00100#5 => needZero (rs2F w) (.fsqrtS (rdF w) (rs1F w) (rmF w))
  | 0b11000#5 => needRm0 w (.ok (.fminS (rdF w) (rs1F w) (rs2F w)))
  | 0b11001#5 => needRm0 w (.ok (.fmaxS (rdF w) (rs1F w) (rs2F w)))
  | 0b01000#5 => needZero (rs2F w) (.fcvtLS (rdF w) (rs1F w) (rmF w))
  | 0b01001#5 => needZero (rs2F w) (.fcvtLuS (rdF w) (rs1F w) (rmF w))
  | 0b01010#5 => needZero (rs2F w) (.fcvtWS (rdF w) (rs1F w) (rmF w))
  | 0b01011#5 => needZero (rs2F w) (.fcvtWuS (rdF w) (rs1F w) (rmF w))
  | 0b01100#5 => needZero (rs2F w) (.fcvtSL (rdF w) (rs1F w) (rmF w))
  | 0b01101#5 => needZero (rs2F w) (.fcvtSLu (rdF w) (rs1F w) (rmF w))
  | 0b01110#5 => needZero (rs2F w) (.fcvtSW (rdF w) (rs1F w) (rmF w))
  | 0b01111#5 => needZero (rs2F w) (.fcvtSWu (rdF w) (rs1F w) (rmF w))
  | 0b10001#5 => needZero (rs2F w) (.fcvtSD (rdF w) (rs1F w) (rmF w))
  | 0b00101#5 => needRm0 w (.ok (.fsgnjS (rdF w) (rs1F w) (rs2F w)))
  | 0b00110#5 => needRm0 w (.ok (.fsgnjnS (rdF w) (rs1F w) (rs2F w)))
  | 0b00111#5 => needRm0 w (.ok (.fsgnjxS (rdF w) (rs1F w) (rs2F w)))
  | 0b11100#5 => needRm0 w (needZero (rs1F w) (.mftxS (rdF w) (rs2F w)))
  | 0b11110#5 => needRm0 w (needZero (rs2F w) (.mxtfS (rdF w) (rs1F w)))
  | 0b11101#5 => needRm0 w (needZero (rs1F w ||| rs2F w) (.mffsr (rdF w)))
  | 0b11111#5 => needRm0 w (needZero (rs2F w) (.mtfsr (rdF w) (rs1F w)))
  | 0b10101#5 => needRm0 w (.ok (.feqS (rdF w) (rs1F w) (rs2F w)))
  | 0b10110#5 => needRm0 w (.ok (.fltS (rdF w) (rs1F w) (rs2F w)))
  | 0b10111#5 => needRm0 w (.ok (.fleS (rdF w) (rs1F w) (rs2F w)))
  | _ => .error .unassignedFunction

/-- OP-FP with `fmt` 01 (R108, R408). -/
def decodeOpFpD (w : InstWord) : Except DecodeError Instr :=
  match funct5F w with
  | 0b00000#5 => .ok (.faddD (rdF w) (rs1F w) (rs2F w) (rmF w))
  | 0b00001#5 => .ok (.fsubD (rdF w) (rs1F w) (rs2F w) (rmF w))
  | 0b00010#5 => .ok (.fmulD (rdF w) (rs1F w) (rs2F w) (rmF w))
  | 0b00011#5 => .ok (.fdivD (rdF w) (rs1F w) (rs2F w) (rmF w))
  | 0b00100#5 => needZero (rs2F w) (.fsqrtD (rdF w) (rs1F w) (rmF w))
  | 0b11000#5 => needRm0 w (.ok (.fminD (rdF w) (rs1F w) (rs2F w)))
  | 0b11001#5 => needRm0 w (.ok (.fmaxD (rdF w) (rs1F w) (rs2F w)))
  | 0b01000#5 => needZero (rs2F w) (.fcvtLD (rdF w) (rs1F w) (rmF w))
  | 0b01001#5 => needZero (rs2F w) (.fcvtLuD (rdF w) (rs1F w) (rmF w))
  | 0b01010#5 => needZero (rs2F w) (.fcvtWD (rdF w) (rs1F w) (rmF w))
  | 0b01011#5 => needZero (rs2F w) (.fcvtWuD (rdF w) (rs1F w) (rmF w))
  | 0b01100#5 => needZero (rs2F w) (.fcvtDL (rdF w) (rs1F w) (rmF w))
  | 0b01101#5 => needZero (rs2F w) (.fcvtDLu (rdF w) (rs1F w) (rmF w))
  | 0b01110#5 => needZero (rs2F w) (.fcvtDW (rdF w) (rs1F w) (rmF w))
  | 0b01111#5 => needZero (rs2F w) (.fcvtDWu (rdF w) (rs1F w) (rmF w))
  | 0b10000#5 => needZero (rs2F w) (.fcvtDS (rdF w) (rs1F w) (rmF w))
  | 0b00101#5 => needRm0 w (.ok (.fsgnjD (rdF w) (rs1F w) (rs2F w)))
  | 0b00110#5 => needRm0 w (.ok (.fsgnjnD (rdF w) (rs1F w) (rs2F w)))
  | 0b00111#5 => needRm0 w (.ok (.fsgnjxD (rdF w) (rs1F w) (rs2F w)))
  | 0b11100#5 => needRm0 w (needZero (rs1F w) (.mftxD (rdF w) (rs2F w)))
  | 0b11110#5 => needRm0 w (needZero (rs2F w) (.mxtfD (rdF w) (rs1F w)))
  | 0b10101#5 => needRm0 w (.ok (.feqD (rdF w) (rs1F w) (rs2F w)))
  | 0b10110#5 => needRm0 w (.ok (.fltD (rdF w) (rs1F w) (rs2F w)))
  | 0b10111#5 => needRm0 w (.ok (.fleD (rdF w) (rs1F w) (rs2F w)))
  | _ => .error .unassignedFunction

/-- OP-FP: `fmt` 10 and 11 are reserved (R108, R318). -/
def decodeOpFp (w : InstWord) : Except DecodeError Instr :=
  match fmtF w with
  | 0b00#2 => decodeOpFpS w
  | 0b01#2 => decodeOpFpD w
  | _ => .error .reservedFmt

/-- The major opcode map (R107); a cell with no base instruction is unassigned (R109, R115). -/
def decodeMajor (w : InstWord) : Except DecodeError Instr :=
  match opcodeF w with
  | 0b0000011#7 => decodeLoad w
  | 0b0000111#7 => decodeLoadFp w
  | 0b0010011#7 => decodeOpImm w
  | 0b0011011#7 => decodeOpImm32 w
  | 0b0100011#7 => decodeStore w
  | 0b0100111#7 => decodeStoreFp w
  | 0b0101011#7 => decodeAmo w
  | 0b0101111#7 => decodeMiscMem w
  | 0b0110011#7 => decodeOp w
  | 0b0110111#7 => .ok (.lui (rdF w) (imm20F w))
  | 0b0111011#7 => decodeOp32 w
  | 0b1000011#7 => decodeMadd w
  | 0b1000111#7 => decodeMsub w
  | 0b1001011#7 => decodeNmsub w
  | 0b1001111#7 => decodeNmadd w
  | 0b1010011#7 => decodeOpFp w
  | 0b1100011#7 => decodeBranch w
  | 0b1100111#7 => .ok (.j (off25F w))
  | 0b1101011#7 => decodeJalr w
  | 0b1101111#7 => .ok (.jal (off25F w))
  | 0b1110111#7 => decodeSystem w
  | _ => .error .unassignedOpcode

/-- Decoding a 32-bit word (R108): a word with `inst[1:0]` other than 11 is a compressed encoding (R110), one with
`inst[4:0]` = 11111 belongs to a longer instruction (R111), every other word goes by the major opcode. -/
def decodeWord (w : InstWord) : Except DecodeError Instr :=
  if w.extractLsb' 0 2 ≠ 0b11#2 then .error .compressed
  else if w.extractLsb' 0 5 = 0b11111#5 then .error .longer
  else decodeMajor w

/-! ### Encoding (R92 to R101) -/

/-- R-type (R93). -/
def encR (rd rs1 rs2 : BitVec 5) (funct7 : BitVec 7) (funct3 : BitVec 3) (opcode : BitVec 7) : InstWord :=
  rd ++ rs1 ++ rs2 ++ funct7 ++ funct3 ++ opcode

/-- I-type (R95). -/
def encI (rd rs1 : BitVec 5) (imm : BitVec 12) (funct3 : BitVec 3) (opcode : BitVec 7) : InstWord :=
  rd ++ rs1 ++ imm ++ funct3 ++ opcode

/-- B-type: the immediate is split in two (R96). -/
def encB (imm : BitVec 12) (rs1 rs2 : BitVec 5) (funct3 : BitVec 3) (opcode : BitVec 7) : InstWord :=
  imm.extractLsb' 7 5 ++ rs1 ++ rs2 ++ imm.extractLsb' 0 7 ++ funct3 ++ opcode

/-- The shift form of I-type with a six-bit amount (R99). -/
def encShift (rd rs1 : BitVec 5) (hi shamt : BitVec 6) (funct3 : BitVec 3) (opcode : BitVec 7) : InstWord :=
  rd ++ rs1 ++ hi ++ shamt ++ funct3 ++ opcode

/-- The shift form of I-type with a five-bit amount (R99). -/
def encShiftW (rd rs1 : BitVec 5) (hi : BitVec 7) (shamtw : BitVec 5) (funct3 : BitVec 3) (opcode : BitVec 7) :
    InstWord :=
  rd ++ rs1 ++ hi ++ shamtw ++ funct3 ++ opcode

/-- L-type (R97). -/
def encL (rd : BitVec 5) (imm : BitVec 20) (opcode : BitVec 7) : InstWord :=
  rd ++ imm ++ opcode

/-- J-type (R98). -/
def encJ (off : BitVec 25) (opcode : BitVec 7) : InstWord :=
  off ++ opcode

/-- The floating-point R-type and the R4-type, whose `rs3` stands where the other has `funct5` (R94, R100). -/
def encFp (rd rs1 rs2 funct5 : BitVec 5) (rm : RmField) (fmt : BitVec 2) (opcode : BitVec 7) : InstWord :=
  rd ++ rs1 ++ rs2 ++ funct5 ++ rm ++ fmt ++ opcode

/-- The word of an instruction, from its row of the opcode table. -/
def encode : Instr → InstWord
  | .lb rd rs1 imm => encI rd rs1 imm 0b000#3 0b0000011#7
  | .lh rd rs1 imm => encI rd rs1 imm 0b001#3 0b0000011#7
  | .lw rd rs1 imm => encI rd rs1 imm 0b010#3 0b0000011#7
  | .ld rd rs1 imm => encI rd rs1 imm 0b011#3 0b0000011#7
  | .lbu rd rs1 imm => encI rd rs1 imm 0b100#3 0b0000011#7
  | .lhu rd rs1 imm => encI rd rs1 imm 0b101#3 0b0000011#7
  | .lwu rd rs1 imm => encI rd rs1 imm 0b110#3 0b0000011#7
  | .sb rs1 rs2 imm => encB imm rs1 rs2 0b000#3 0b0100011#7
  | .sh rs1 rs2 imm => encB imm rs1 rs2 0b001#3 0b0100011#7
  | .sw rs1 rs2 imm => encB imm rs1 rs2 0b010#3 0b0100011#7
  | .sd rs1 rs2 imm => encB imm rs1 rs2 0b011#3 0b0100011#7
  | .flw rd rs1 imm => encI rd rs1 imm 0b010#3 0b0000111#7
  | .fld rd rs1 imm => encI rd rs1 imm 0b011#3 0b0000111#7
  | .fsw rs1 rs2 imm => encB imm rs1 rs2 0b010#3 0b0100111#7
  | .fsd rs1 rs2 imm => encB imm rs1 rs2 0b011#3 0b0100111#7
  | .amoaddW rd rs1 rs2 => encR rd rs1 rs2 0b0000000#7 0b010#3 0b0101011#7
  | .amoswapW rd rs1 rs2 => encR rd rs1 rs2 0b0000001#7 0b010#3 0b0101011#7
  | .amoandW rd rs1 rs2 => encR rd rs1 rs2 0b0000010#7 0b010#3 0b0101011#7
  | .amoorW rd rs1 rs2 => encR rd rs1 rs2 0b0000011#7 0b010#3 0b0101011#7
  | .amominW rd rs1 rs2 => encR rd rs1 rs2 0b0000100#7 0b010#3 0b0101011#7
  | .amomaxW rd rs1 rs2 => encR rd rs1 rs2 0b0000101#7 0b010#3 0b0101011#7
  | .amominuW rd rs1 rs2 => encR rd rs1 rs2 0b0000110#7 0b010#3 0b0101011#7
  | .amomaxuW rd rs1 rs2 => encR rd rs1 rs2 0b0000111#7 0b010#3 0b0101011#7
  | .amoaddD rd rs1 rs2 => encR rd rs1 rs2 0b0000000#7 0b011#3 0b0101011#7
  | .amoswapD rd rs1 rs2 => encR rd rs1 rs2 0b0000001#7 0b011#3 0b0101011#7
  | .amoandD rd rs1 rs2 => encR rd rs1 rs2 0b0000010#7 0b011#3 0b0101011#7
  | .amoorD rd rs1 rs2 => encR rd rs1 rs2 0b0000011#7 0b011#3 0b0101011#7
  | .amominD rd rs1 rs2 => encR rd rs1 rs2 0b0000100#7 0b011#3 0b0101011#7
  | .amomaxD rd rs1 rs2 => encR rd rs1 rs2 0b0000101#7 0b011#3 0b0101011#7
  | .amominuD rd rs1 rs2 => encR rd rs1 rs2 0b0000110#7 0b011#3 0b0101011#7
  | .amomaxuD rd rs1 rs2 => encR rd rs1 rs2 0b0000111#7 0b011#3 0b0101011#7
  | .addi rd rs1 imm => encI rd rs1 imm 0b000#3 0b0010011#7
  | .slti rd rs1 imm => encI rd rs1 imm 0b010#3 0b0010011#7
  | .sltiu rd rs1 imm => encI rd rs1 imm 0b011#3 0b0010011#7
  | .andi rd rs1 imm => encI rd rs1 imm 0b111#3 0b0010011#7
  | .ori rd rs1 imm => encI rd rs1 imm 0b110#3 0b0010011#7
  | .xori rd rs1 imm => encI rd rs1 imm 0b100#3 0b0010011#7
  | .slli rd rs1 shamt => encShift rd rs1 0b000000#6 shamt 0b001#3 0b0010011#7
  | .srli rd rs1 shamt => encShift rd rs1 0b000000#6 shamt 0b101#3 0b0010011#7
  | .srai rd rs1 shamt => encShift rd rs1 0b000001#6 shamt 0b101#3 0b0010011#7
  | .lui rd imm => encL rd imm 0b0110111#7
  | .addiw rd rs1 imm => encI rd rs1 imm 0b000#3 0b0011011#7
  | .slliw rd rs1 shamtw => encShiftW rd rs1 0b0000000#7 shamtw 0b001#3 0b0011011#7
  | .srliw rd rs1 shamtw => encShiftW rd rs1 0b0000000#7 shamtw 0b101#3 0b0011011#7
  | .sraiw rd rs1 shamtw => encShiftW rd rs1 0b0000010#7 shamtw 0b101#3 0b0011011#7
  | .add rd rs1 rs2 => encR rd rs1 rs2 0b0000000#7 0b000#3 0b0110011#7
  | .sub rd rs1 rs2 => encR rd rs1 rs2 0b1000000#7 0b000#3 0b0110011#7
  | .slt rd rs1 rs2 => encR rd rs1 rs2 0b0000000#7 0b010#3 0b0110011#7
  | .sltu rd rs1 rs2 => encR rd rs1 rs2 0b0000000#7 0b011#3 0b0110011#7
  | .and rd rs1 rs2 => encR rd rs1 rs2 0b0000000#7 0b111#3 0b0110011#7
  | .or rd rs1 rs2 => encR rd rs1 rs2 0b0000000#7 0b110#3 0b0110011#7
  | .xor rd rs1 rs2 => encR rd rs1 rs2 0b0000000#7 0b100#3 0b0110011#7
  | .sll rd rs1 rs2 => encR rd rs1 rs2 0b0000000#7 0b001#3 0b0110011#7
  | .srl rd rs1 rs2 => encR rd rs1 rs2 0b0000000#7 0b101#3 0b0110011#7
  | .sra rd rs1 rs2 => encR rd rs1 rs2 0b1000000#7 0b101#3 0b0110011#7
  | .addw rd rs1 rs2 => encR rd rs1 rs2 0b0000000#7 0b000#3 0b0111011#7
  | .subw rd rs1 rs2 => encR rd rs1 rs2 0b1000000#7 0b000#3 0b0111011#7
  | .sllw rd rs1 rs2 => encR rd rs1 rs2 0b0000000#7 0b001#3 0b0111011#7
  | .srlw rd rs1 rs2 => encR rd rs1 rs2 0b0000000#7 0b101#3 0b0111011#7
  | .sraw rd rs1 rs2 => encR rd rs1 rs2 0b1000000#7 0b101#3 0b0111011#7
  | .mul rd rs1 rs2 => encR rd rs1 rs2 0b0000001#7 0b000#3 0b0110011#7
  | .mulh rd rs1 rs2 => encR rd rs1 rs2 0b0000001#7 0b001#3 0b0110011#7
  | .mulhu rd rs1 rs2 => encR rd rs1 rs2 0b0000001#7 0b011#3 0b0110011#7
  | .mulhsu rd rs1 rs2 => encR rd rs1 rs2 0b0000001#7 0b010#3 0b0110011#7
  | .mulw rd rs1 rs2 => encR rd rs1 rs2 0b0000001#7 0b000#3 0b0111011#7
  | .div rd rs1 rs2 => encR rd rs1 rs2 0b0000001#7 0b100#3 0b0110011#7
  | .divu rd rs1 rs2 => encR rd rs1 rs2 0b0000001#7 0b101#3 0b0110011#7
  | .rem rd rs1 rs2 => encR rd rs1 rs2 0b0000001#7 0b110#3 0b0110011#7
  | .remu rd rs1 rs2 => encR rd rs1 rs2 0b0000001#7 0b111#3 0b0110011#7
  | .divw rd rs1 rs2 => encR rd rs1 rs2 0b0000001#7 0b100#3 0b0111011#7
  | .divuw rd rs1 rs2 => encR rd rs1 rs2 0b0000001#7 0b101#3 0b0111011#7
  | .remw rd rs1 rs2 => encR rd rs1 rs2 0b0000001#7 0b110#3 0b0111011#7
  | .remuw rd rs1 rs2 => encR rd rs1 rs2 0b0000001#7 0b111#3 0b0111011#7
  | .j off => encJ off 0b1100111#7
  | .jal off => encJ off 0b1101111#7
  | .jalrC rd rs1 imm => encI rd rs1 imm 0b000#3 0b1101011#7
  | .jalrR rd rs1 imm => encI rd rs1 imm 0b001#3 0b1101011#7
  | .jalrJ rd rs1 imm => encI rd rs1 imm 0b010#3 0b1101011#7
  | .rdnpc rd => encI rd 0#5 0#12 0b100#3 0b1101011#7
  | .beq rs1 rs2 imm => encB imm rs1 rs2 0b000#3 0b1100011#7
  | .bne rs1 rs2 imm => encB imm rs1 rs2 0b001#3 0b1100011#7
  | .blt rs1 rs2 imm => encB imm rs1 rs2 0b100#3 0b1100011#7
  | .bge rs1 rs2 imm => encB imm rs1 rs2 0b101#3 0b1100011#7
  | .bltu rs1 rs2 imm => encB imm rs1 rs2 0b110#3 0b1100011#7
  | .bgeu rs1 rs2 imm => encB imm rs1 rs2 0b111#3 0b1100011#7
  | .faddS rd rs1 rs2 rm => encFp rd rs1 rs2 0b00000#5 rm 0b00#2 0b1010011#7
  | .fsubS rd rs1 rs2 rm => encFp rd rs1 rs2 0b00001#5 rm 0b00#2 0b1010011#7
  | .fmulS rd rs1 rs2 rm => encFp rd rs1 rs2 0b00010#5 rm 0b00#2 0b1010011#7
  | .fdivS rd rs1 rs2 rm => encFp rd rs1 rs2 0b00011#5 rm 0b00#2 0b1010011#7
  | .fsqrtS rd rs1 rm => encFp rd rs1 0#5 0b00100#5 rm 0b00#2 0b1010011#7
  | .fminS rd rs1 rs2 => encFp rd rs1 rs2 0b11000#5 0b000#3 0b00#2 0b1010011#7
  | .fmaxS rd rs1 rs2 => encFp rd rs1 rs2 0b11001#5 0b000#3 0b00#2 0b1010011#7
  | .faddD rd rs1 rs2 rm => encFp rd rs1 rs2 0b00000#5 rm 0b01#2 0b1010011#7
  | .fsubD rd rs1 rs2 rm => encFp rd rs1 rs2 0b00001#5 rm 0b01#2 0b1010011#7
  | .fmulD rd rs1 rs2 rm => encFp rd rs1 rs2 0b00010#5 rm 0b01#2 0b1010011#7
  | .fdivD rd rs1 rs2 rm => encFp rd rs1 rs2 0b00011#5 rm 0b01#2 0b1010011#7
  | .fsqrtD rd rs1 rm => encFp rd rs1 0#5 0b00100#5 rm 0b01#2 0b1010011#7
  | .fminD rd rs1 rs2 => encFp rd rs1 rs2 0b11000#5 0b000#3 0b01#2 0b1010011#7
  | .fmaxD rd rs1 rs2 => encFp rd rs1 rs2 0b11001#5 0b000#3 0b01#2 0b1010011#7
  | .fmaddS rd rs1 rs2 rs3 rm => encFp rd rs1 rs2 rs3 rm 0b00#2 0b1000011#7
  | .fmsubS rd rs1 rs2 rs3 rm => encFp rd rs1 rs2 rs3 rm 0b00#2 0b1000111#7
  | .fnmsubS rd rs1 rs2 rs3 rm => encFp rd rs1 rs2 rs3 rm 0b00#2 0b1001011#7
  | .fnmaddS rd rs1 rs2 rs3 rm => encFp rd rs1 rs2 rs3 rm 0b00#2 0b1001111#7
  | .fmaddD rd rs1 rs2 rs3 rm => encFp rd rs1 rs2 rs3 rm 0b01#2 0b1000011#7
  | .fmsubD rd rs1 rs2 rs3 rm => encFp rd rs1 rs2 rs3 rm 0b01#2 0b1000111#7
  | .fnmsubD rd rs1 rs2 rs3 rm => encFp rd rs1 rs2 rs3 rm 0b01#2 0b1001011#7
  | .fnmaddD rd rs1 rs2 rs3 rm => encFp rd rs1 rs2 rs3 rm 0b01#2 0b1001111#7
  | .fcvtLS rd rs1 rm => encFp rd rs1 0#5 0b01000#5 rm 0b00#2 0b1010011#7
  | .fcvtLuS rd rs1 rm => encFp rd rs1 0#5 0b01001#5 rm 0b00#2 0b1010011#7
  | .fcvtWS rd rs1 rm => encFp rd rs1 0#5 0b01010#5 rm 0b00#2 0b1010011#7
  | .fcvtWuS rd rs1 rm => encFp rd rs1 0#5 0b01011#5 rm 0b00#2 0b1010011#7
  | .fcvtLD rd rs1 rm => encFp rd rs1 0#5 0b01000#5 rm 0b01#2 0b1010011#7
  | .fcvtLuD rd rs1 rm => encFp rd rs1 0#5 0b01001#5 rm 0b01#2 0b1010011#7
  | .fcvtWD rd rs1 rm => encFp rd rs1 0#5 0b01010#5 rm 0b01#2 0b1010011#7
  | .fcvtWuD rd rs1 rm => encFp rd rs1 0#5 0b01011#5 rm 0b01#2 0b1010011#7
  | .fcvtSL rd rs1 rm => encFp rd rs1 0#5 0b01100#5 rm 0b00#2 0b1010011#7
  | .fcvtSLu rd rs1 rm => encFp rd rs1 0#5 0b01101#5 rm 0b00#2 0b1010011#7
  | .fcvtSW rd rs1 rm => encFp rd rs1 0#5 0b01110#5 rm 0b00#2 0b1010011#7
  | .fcvtSWu rd rs1 rm => encFp rd rs1 0#5 0b01111#5 rm 0b00#2 0b1010011#7
  | .fcvtDL rd rs1 rm => encFp rd rs1 0#5 0b01100#5 rm 0b01#2 0b1010011#7
  | .fcvtDLu rd rs1 rm => encFp rd rs1 0#5 0b01101#5 rm 0b01#2 0b1010011#7
  | .fcvtDW rd rs1 rm => encFp rd rs1 0#5 0b01110#5 rm 0b01#2 0b1010011#7
  | .fcvtDWu rd rs1 rm => encFp rd rs1 0#5 0b01111#5 rm 0b01#2 0b1010011#7
  | .fcvtSD rd rs1 rm => encFp rd rs1 0#5 0b10001#5 rm 0b00#2 0b1010011#7
  | .fcvtDS rd rs1 rm => encFp rd rs1 0#5 0b10000#5 rm 0b01#2 0b1010011#7
  | .fsgnjS rd rs1 rs2 => encFp rd rs1 rs2 0b00101#5 0b000#3 0b00#2 0b1010011#7
  | .fsgnjnS rd rs1 rs2 => encFp rd rs1 rs2 0b00110#5 0b000#3 0b00#2 0b1010011#7
  | .fsgnjxS rd rs1 rs2 => encFp rd rs1 rs2 0b00111#5 0b000#3 0b00#2 0b1010011#7
  | .fsgnjD rd rs1 rs2 => encFp rd rs1 rs2 0b00101#5 0b000#3 0b01#2 0b1010011#7
  | .fsgnjnD rd rs1 rs2 => encFp rd rs1 rs2 0b00110#5 0b000#3 0b01#2 0b1010011#7
  | .fsgnjxD rd rs1 rs2 => encFp rd rs1 rs2 0b00111#5 0b000#3 0b01#2 0b1010011#7
  | .mftxS rd rs2 => encFp rd 0#5 rs2 0b11100#5 0b000#3 0b00#2 0b1010011#7
  | .mftxD rd rs2 => encFp rd 0#5 rs2 0b11100#5 0b000#3 0b01#2 0b1010011#7
  | .mxtfS rd rs1 => encFp rd rs1 0#5 0b11110#5 0b000#3 0b00#2 0b1010011#7
  | .mxtfD rd rs1 => encFp rd rs1 0#5 0b11110#5 0b000#3 0b01#2 0b1010011#7
  | .mffsr rd => encFp rd 0#5 0#5 0b11101#5 0b000#3 0b00#2 0b1010011#7
  | .mtfsr rd rs1 => encFp rd rs1 0#5 0b11111#5 0b000#3 0b00#2 0b1010011#7
  | .feqS rd rs1 rs2 => encFp rd rs1 rs2 0b10101#5 0b000#3 0b00#2 0b1010011#7
  | .fltS rd rs1 rs2 => encFp rd rs1 rs2 0b10110#5 0b000#3 0b00#2 0b1010011#7
  | .fleS rd rs1 rs2 => encFp rd rs1 rs2 0b10111#5 0b000#3 0b00#2 0b1010011#7
  | .feqD rd rs1 rs2 => encFp rd rs1 rs2 0b10101#5 0b000#3 0b01#2 0b1010011#7
  | .fltD rd rs1 rs2 => encFp rd rs1 rs2 0b10110#5 0b000#3 0b01#2 0b1010011#7
  | .fleD rd rs1 rs2 => encFp rd rs1 rs2 0b10111#5 0b000#3 0b01#2 0b1010011#7
  | .fence rd rs1 imm => encI rd rs1 imm 0b010#3 0b0101111#7
  | .fenceI rd rs1 imm => encI rd rs1 imm 0b001#3 0b0101111#7
  | .syscall => encR 0#5 0#5 0#5 0b0000000#7 0b000#3 0b1110111#7
  | .brk => encR 0#5 0#5 0#5 0b0000000#7 0b001#3 0b1110111#7
  | .rdcycle rd => encR rd 0#5 0#5 0b0000000#7 0b100#3 0b1110111#7
  | .rdtime rd => encR rd 0#5 0#5 0b0000001#7 0b100#3 0b1110111#7
  | .rdinstret rd => encR rd 0#5 0#5 0b0000010#7 0b100#3 0b1110111#7

/-! ### Bytes (R54) -/

/-- The two bytes of a parcel, lowest address first (R54). -/
def parcelBytes (e : Endian) (p : BitVec 16) : List Byte :=
  match e with
  | .little => [p.extractLsb' 0 8, p.extractLsb' 8 8]
  | .big    => [p.extractLsb' 8 8, p.extractLsb' 0 8]

/-- The parcel that two bytes hold, the first at the lower address (R54). -/
def parcelOf (e : Endian) (b0 b1 : Byte) : BitVec 16 :=
  match e with
  | .little => b1 ++ b0
  | .big    => b0 ++ b1

/-- The four bytes of an instruction word in memory: the low parcel first in either byte order (R54). -/
def wordBytes (e : Endian) (w : InstWord) : List Byte :=
  parcelBytes e (w.extractLsb' 0 16) ++ parcelBytes e (w.extractLsb' 16 16)

/-- Decoding at the head of a byte sequence: the instruction and the bytes after it. -/
def decodeBytes (e : Endian) : List Byte → Except DecodeError (Instr × List Byte)
  | b0 :: b1 :: b2 :: b3 :: rest =>
    match decodeWord (parcelOf e b2 b3 ++ parcelOf e b0 b1) with
    | .ok i => .ok (i, rest)
    | .error r => .error r
  | _ => .error .truncated

/-- The 32-bit word of the host's numbering: bit 0 is the least significant bit of the first parcel, every bit from
`nbits` on is zero. -/
def tableWord (nbits w : Nat) : InstWord := BitVec.ofNat 32 (w % 2 ^ nbits)

/-- The host's question: the instruction the decoder reads from a table word laid out in memory. Either byte order
gives the same answer; the little-endian one is asked. -/
def decodeTableWord (nbits w : Nat) : Option Instr :=
  match decodeBytes .little (wordBytes .little (tableWord nbits w)) with
  | .ok (i, _) => some i
  | .error _ => none

end Sys2Proof
end

