-- ==== Sys2Proof/Machine/State.lean ====
section
/-! DEFINITION. The state of the machine (R20 to R37) as plain data, the reasons a step can stop (R460), and the state
after reset. One hardware thread is modelled; its memory is the whole memory (R16, R65). -/
namespace Sys2Proof.Machine

/-- The content of an f register: a single- or a double-precision pattern, tagged by the format it was last written
in (R25, D12). -/
inductive FCell where
  /-- Last written by a single-precision instruction. -/
  | s (b : BitVec 32)
  /-- Last written by a double-precision instruction. -/
  | d (b : BitVec 64)
deriving DecidableEq, Repr

/-- An earlier value of a 16-bit parcel of memory that an instruction fetch may still see, because no FENCE.I has
been executed since the store that replaced it (R34, R68, D30). -/
structure StaleParcel where
  /-- Address of the parcel's lower byte, even. -/
  addr : Nat
  /-- Byte at `addr`. -/
  b0 : Byte
  /-- Byte at `addr + 1`. -/
  b1 : Byte
deriving DecidableEq, Repr

/-- The state of the machine. -/
structure State where
  /-- `XPRLEN`, `ENDIAN`, `MEM_VALID`: constant for a run (R5). -/
  params : Params
  /-- x0 to x31, `XPRLEN` bits each (R21); slot 0 is never read (R22). -/
  x : Vector Word 32
  /-- f0 to f31 (R25). -/
  f : Vector FCell 32
  /-- Address of the current instruction, `XPRLEN` bits (R26). -/
  pc : Word
  /-- Floating-point status register (R28, R29); bits 31:8 are never read (R30). -/
  fsr : BitVec 32
  /-- Clock-cycle count (R32, R443), read modulo 2^XPRLEN. -/
  cycle : Nat
  /-- Real-time count (R32, R444), read modulo 2^XPRLEN. -/
  time : Nat
  /-- Instructions retired (R32, R445), read modulo 2^XPRLEN. -/
  instret : Nat
  /-- Memory (R33, R50) in canonical form (`Memory.wf`). -/
  mem : List Host.Cell
  /-- Earlier parcel values that fetch may still see (R34). -/
  stale : List StaleParcel
  /-- The MODEL's own counter, advanced by every retired instruction, to which the free values of `Config` are
  applied; the spec has no such state. -/
  draws : Nat
deriving DecidableEq, Repr

/-- What ends a step without a next state: the exceptions of R460. A trap makes none of the instruction's writes, so
the state to resume from is the state before the step (R469). Each is safe: the step ends where the spec says that
the hardware thread's part of it ends. -/
inductive Fault where
  /-- Raised by the fetch when the pc is not a multiple of 4 (R462). -/
  | instructionAddressMisaligned (pc : Word)
  /-- Raised by decode, or by a floating-point instruction whose rounding mode is invalid (R461); the pc and the
  instruction word. -/
  | illegalInstruction (pc : Word) (inst : InstWord)
  /-- Raised by an AMO whose address is not a multiple of its operand size (R463). -/
  | amoAddressMisaligned (pc : Word) (addr : Word)
  /-- Raised by every SYSCALL (R464). -/
  | syscall (pc : Word)
  /-- Raised by every BREAK (R465). -/
  | breakpoint (pc : Word)
  /-- Raised by an access one of whose bytes `MEM_VALID` does not admit (R62); the first such byte and the kind of
  access. The spec's own model-only fault. -/
  | accessFault (pc : Word) (addr : Nat) (kind : AccessKind)
deriving DecidableEq, Repr

/-- Why an instruction has no meaning in the model. -/
inductive Refusal where
  /-- Raised by an arm of `exec` whose instruction has no meaning yet. Safe: nothing is claimed of it. -/
  | notModelled (mnemonic : String)
deriving DecidableEq, Repr

/-- Launch parameters taken at reset: RV64, little-endian, every byte address admitted for every kind of access
(DESIGN CHOICE: the spec leaves all three open, D1, D2, D7). -/
def resetParams : Params where
  xlen := .rv64
  endian := .little
  memValid := [{ base := 0, size := 2 ^ 64, fetch := true, read := true, write := true }]

/-- The machine right after reset. The spec fixes x0 and fsr[31:8] at zero, no stale parcel (R37, R500, R501); every
other value is a DESIGN CHOICE of the model, because the spec states none. -/
def State.reset : State where
  params := resetParams
  x := Vector.replicate 32 0
  f := Vector.replicate 32 (.d 0)
  pc := 0
  fsr := 0
  cycle := 0
  time := 0
  instret := 0
  mem := []
  stale := []
  draws := 0

end Sys2Proof.Machine
end

