-- ==== Sys2Proof/Machine/Flags.lean ====
section
/-! DEFINITION. The floating-point status register: its fields, the accrued exception flags, and the resolution of a
rounding mode. -/
namespace Sys2Proof.Machine

/-! ### Flag sets (R29, R313) -/

/-- No flag. -/
def flagNone : FlagSet := 0b00000
/-- Invalid Operation. -/
def flagNV : FlagSet := 0b10000
/-- Divide by Zero. -/
def flagDZ : FlagSet := 0b01000
/-- Overflow. -/
def flagOF : FlagSet := 0b00100
/-- Underflow. -/
def flagUF : FlagSet := 0b00010
/-- Inexact. -/
def flagNX : FlagSet := 0b00001

/-- A flag raised when a condition holds. -/
def flagIf (c : Bool) (e : FlagSet) : FlagSet := if c then e else flagNone

/-! ### The register (R28 to R30) -/

/-- The value of fsr as an instruction reads it: bits 31:8 are hardwired zero (R30). -/
def State.fsrValue (s : State) : BitVec 32 := (s.fsr.setWidth 8).setWidth 32

/-- `fsr.RM`, bits 7:5 (R29). -/
def State.fsrRM (s : State) : BitVec 3 := s.fsr.extractLsb' 5 3

/-- `fsr.FLAGS`, bits 4:0 (R29). -/
def State.fsrFlags (s : State) : FlagSet := s.fsr.setWidth 5

/-- MTFSR's write of fsr: bits 31:8 of the value are ignored (R30, R400). -/
def State.writeFsr (s : State) (v : BitVec 32) : State := { s with fsr := (v.setWidth 8).setWidth 32 }

/-- Flag accrual: `fsr[4:0] <- fsr[4:0] OR E` (R313). -/
def State.raiseFlags (s : State) (e : FlagSet) : State := { s with fsr := s.fsr ||| e.setWidth 32 }

/-! ### Rounding modes (R312, R319) -/

/-- The five rounding modes (R29, R319). -/
inductive RMode where
  /-- Round to Nearest, ties to Even. -/
  | rne
  /-- Round toward Zero. -/
  | rtz
  /-- Round Down (towards −∞). -/
  | rdn
  /-- Round Up (towards +∞). -/
  | rup
  /-- Round to Nearest, ties to Max Magnitude. -/
  | rmm
deriving DecidableEq, Repr

/-- The mode a three-bit value names; 101, 110 and 111 name none (R29). -/
def modeOf (b : BitVec 3) : Option RMode :=
  match b with
  | 0b000#3 => some .rne
  | 0b001#3 => some .rtz
  | 0b010#3 => some .rdn
  | 0b011#3 => some .rup
  | 0b100#3 => some .rmm
  | _ => none

/-- `RM(inst)`: 111 in the instruction selects the mode held in fsr, every other value is the mode itself or
invalid (R312). -/
def resolveMode (rm : RmField) (fsrRM : BitVec 3) : Option RMode :=
  if rm = 0b111 then modeOf fsrRM else modeOf rm

end Sys2Proof.Machine
end

