-- ==== Sys2Proof/Machine/Memory.lean ====
section
/-! DEFINITION. Memory as a sorted list of cells, and byte sequences as values: the operations that every access of
the machine goes through. -/
namespace Sys2Proof.Machine

/-- What a byte address that the list does not hold reads as: 0x00 (DESIGN CHOICE: the launch contents are open,
R37). -/
def Memory.unlisted : Byte := 0

/-- The byte at an address. -/
def Memory.read : List Host.Cell → Nat → Byte
  | [], _ => Memory.unlisted
  | c :: m, a => if c.1 = a then c.2 else Memory.read m a

/-- A cell put in its place by address. -/
def Memory.insert (c : Host.Cell) : List Host.Cell → List Host.Cell
  | [] => [c]
  | c' :: m => if c.1 < c'.1 then c :: c' :: m else c' :: Memory.insert c m

/-- Every cell but those of one address. -/
def Memory.erase (m : List Host.Cell) (a : Nat) : List Host.Cell :=
  m.filter fun c => c.1 != a

/-- One byte written. The list stays canonical: writing what an unlisted address reads as removes the cell. -/
def Memory.write (m : List Host.Cell) (a : Nat) (b : Byte) : List Host.Cell :=
  if b = Memory.unlisted then Memory.erase m a else Memory.insert (a, b) (Memory.erase m a)

/-- Bytes written one after another, each with its address. -/
def Memory.writeAll : List Host.Cell → List Host.Cell → List Host.Cell
  | m, [] => m
  | m, c :: cs => Memory.writeAll (Memory.write m c.1 c.2) cs

/-- The canonical form: addresses strictly rising, and no cell equal to what an unlisted address reads as. -/
abbrev Memory.wf (m : List Host.Cell) : Prop :=
  m.Pairwise (fun c d => c.1 < d.1) ∧ ∀ c ∈ m, c.2 ≠ Memory.unlisted

/-- The value of a byte sequence whose first byte is the least significant (R52). -/
def leValue : List Byte → Nat
  | [] => 0
  | b :: bs => b.toNat + 256 * leValue bs

/-- The low `n` bytes of a value, least significant first (R53). -/
def leBytes : Nat → Word → List Byte
  | 0, _ => []
  | n + 1, v => v.setWidth 8 :: leBytes n (v >>> 8)

/-- The value of the bytes of an access, lowest address first, in the byte order of the machine (R52). -/
def valueOfBytes (e : Endian) (bs : List Byte) : Word :=
  match e with
  | .little => BitVec.ofNat 64 (leValue bs)
  | .big    => BitVec.ofNat 64 (leValue bs.reverse)

/-- The bytes that store the low `n` bytes of a value, lowest address first (R53). -/
def bytesOfValue (e : Endian) (n : Nat) (v : Word) : List Byte :=
  match e with
  | .little => leBytes n v
  | .big    => (leBytes n v).reverse

/-- The byte addresses of an `n`-byte access, each modulo 2^XPRLEN (R63). -/
def accessAddrs (xl : Xlen) (addr : Word) (n : Nat) : List Nat :=
  (List.range n).map fun i => (addr.toNat + i) % 2 ^ xl.bits

/-- A region admits a kind of access (R62). -/
def regionAdmits (r : Region) (k : AccessKind) (a : Nat) : Bool :=
  decide (r.base ≤ a) && decide (a < r.base + r.size) &&
    match k with
    | .fetch => r.fetch
    | .read  => r.read
    | .write => r.write

/-- `MEM_VALID`: some region admits the access (R62, D7). -/
def memValid (p : Params) (k : AccessKind) (a : Nat) : Bool :=
  p.memValid.any fun r => regionAdmits r k a

/-- The first byte of an access that `MEM_VALID` does not admit (R62). -/
def firstRefused (p : Params) (k : AccessKind) (addrs : List Nat) : Option Nat :=
  addrs.find? fun a => !memValid p k a

/-- The address of the parcel that a byte lies in (R54). -/
def parcelAddr (a : Nat) : Nat := a - a % 2

/-- The parcel at an address as memory now holds it. -/
def currentParcel (m : List Host.Cell) (p : Nat) : StaleParcel :=
  { addr := p, b0 := Memory.read m p, b1 := Memory.read m (p + 1) }

/-- The earlier values that a store leaves for fetch to see in the parcel at `p`: the value before the store and,
where a misaligned store writes both bytes as separate accesses in an unspecified order, the two mixed values
(R57, R58, R68, D6, D30). -/
def parcelHistory (before after : List Host.Cell) (aligned : Bool) (written : List Nat) (p : Nat) :
    List StaleParcel :=
  let old := currentParcel before p
  let new := currentParcel after p
  if !aligned && written.contains p && written.contains (p + 1) then
    [old, { old with b0 := new.b0 }, { old with b1 := new.b1 }]
  else
    [old]

/-- The earlier values that a store leaves for fetch to see, parcel by parcel (R68, R504). -/
def storeHistory (before after : List Host.Cell) (aligned : Bool) (written : List Nat) : List StaleParcel :=
  ((written.map parcelAddr).eraseDups).flatMap (parcelHistory before after aligned written)

end Sys2Proof.Machine
end

