-- ==== Sys2Proof/Machine/Operands.lean ====
section
/-! DEFINITION. Operand forms and integer operations: immediates, the signed and unsigned readings of a word, and the
two-operand functions of the integer instructions, each written once for every width. -/
namespace Sys2Proof.Machine

/-! ### Immediates (R102 to R105) -/

/-- The sign-extended 12-bit immediate (R102, R103). -/
def immWord (imm : BitVec 12) : Word := imm.signExtend 64

/-- The byte offset of a branch: sign-extended and shifted left one bit (R103). -/
def branchOffset (imm : BitVec 12) : Word := imm.signExtend 64 <<< 1

/-- The byte offset of J and JAL: sign-extended and shifted left one bit (R105). -/
def jumpOffset (off : BitVec 25) : Word := off.signExtend 64 <<< 1

/-- The value of LUI: twelve zeros below the immediate, sign-extended from 32 bits (R104). -/
def luiWord (imm : BitVec 20) : Word := (imm ++ 0#12 : BitVec 32).signExtend 64

/-! ### Widths (R7, R8) -/

/-- A two-operand function of `XPRLEN`-bit vectors, chosen by the variant. -/
def liftX (xl : Xlen) (f : (n : Nat) → BitVec n → BitVec n → BitVec n) (a b : Word) : Word :=
  match xl with
  | .rv32 => (f 32 (a.setWidth 32) (b.setWidth 32)).setWidth 64
  | .rv64 => f 64 a b

/-- A comparison of `XPRLEN`-bit vectors, chosen by the variant. -/
def testX (xl : Xlen) (f : (n : Nat) → BitVec n → BitVec n → Bool) (a b : Word) : Bool :=
  match xl with
  | .rv32 => f 32 (a.setWidth 32) (b.setWidth 32)
  | .rv64 => f 64 a b

/-- The low 32 bits of a word, sign-extended to 64 (R217). -/
def sext32 (w : BitVec 32) : Word := w.signExtend 64

/-- A two-operand function of the low 32 bits, its result sign-extended (R217). -/
def lift32 (f : BitVec 32 → BitVec 32 → BitVec 32) (a b : Word) : Word :=
  sext32 (f (a.setWidth 32) (b.setWidth 32))

/-- A Boolean as a value: 1 or 0 (R8). -/
def boolWord (b : Bool) : Word := if b then 1 else 0

/-! ### Integer operations (R8, R200 to R264) -/

/-- Addition modulo 2^n (R231). -/
def addOp (n : Nat) (a b : BitVec n) : BitVec n := a + b
/-- Subtraction modulo 2^n (R232). -/
def subOp (n : Nat) (a b : BitVec n) : BitVec n := a - b
/-- Bitwise AND (R235). -/
def andOp (n : Nat) (a b : BitVec n) : BitVec n := a &&& b
/-- Bitwise OR (R236). -/
def orOp (n : Nat) (a b : BitVec n) : BitVec n := a ||| b
/-- Bitwise XOR (R237). -/
def xorOp (n : Nat) (a b : BitVec n) : BitVec n := a ^^^ b
/-- Left shift by the amount modulo the width: the low bits of the second operand (R238, R263). -/
def sllOp (n : Nat) (a b : BitVec n) : BitVec n := a <<< (b.toNat % n)
/-- Logical right shift (R239, R263). -/
def srlOp (n : Nat) (a b : BitVec n) : BitVec n := a >>> (b.toNat % n)
/-- Arithmetic right shift (R240, R263). -/
def sraOp (n : Nat) (a b : BitVec n) : BitVec n := a.sshiftRight (b.toNat % n)

/-- Signed comparison (R8). -/
def sltTest (n : Nat) (a b : BitVec n) : Bool := decide (a.toInt < b.toInt)
/-- Unsigned comparison (R8). -/
def ultTest (n : Nat) (a b : BitVec n) : Bool := decide (a.toNat < b.toNat)
/-- Equality (R289). -/
def eqTest (n : Nat) (a b : BitVec n) : Bool := decide (a = b)

/-- Low half of the product (R247). -/
def mulOp (n : Nat) (a b : BitVec n) : BitVec n := a * b
/-- High half of the signed product (R248). -/
def mulhOp (n : Nat) (a b : BitVec n) : BitVec n := BitVec.ofInt n ((a.toInt * b.toInt) / 2 ^ n)
/-- High half of the unsigned product (R249). -/
def mulhuOp (n : Nat) (a b : BitVec n) : BitVec n := BitVec.ofNat n ((a.toNat * b.toNat) / 2 ^ n)
/-- High half of the product of a signed first and an unsigned second operand (R250, D35). -/
def mulhsuOp (n : Nat) (a b : BitVec n) : BitVec n := BitVec.ofInt n ((a.toInt * b.toNat) / 2 ^ n)

/-- Signed division, truncating (R252, D34): by zero all ones, overflow the dividend. -/
def divOp (n : Nat) (a b : BitVec n) : BitVec n :=
  if b = 0 then BitVec.allOnes n
  else if a.toInt = -2 ^ (n - 1) ∧ b.toInt = -1 then a
  else BitVec.ofInt n (a.toInt.tdiv b.toInt)

/-- Unsigned division (R252): by zero all ones. -/
def divuOp (n : Nat) (a b : BitVec n) : BitVec n :=
  if b = 0 then BitVec.allOnes n else BitVec.ofNat n (a.toNat / b.toNat)

/-- Signed remainder (R252): by zero the dividend, overflow zero, else the sign of the dividend. -/
def remOp (n : Nat) (a b : BitVec n) : BitVec n :=
  if b = 0 then a
  else if a.toInt = -2 ^ (n - 1) ∧ b.toInt = -1 then 0
  else BitVec.ofInt n (a.toInt - b.toInt * a.toInt.tdiv b.toInt)

/-- Unsigned remainder (R252): by zero the dividend. -/
def remuOp (n : Nat) (a b : BitVec n) : BitVec n :=
  if b = 0 then a else BitVec.ofNat n (a.toNat % b.toNat)

/-! ### AMO operators (R189) -/

/-- The second operand (R189). -/
def swapOp (n : Nat) (_ b : BitVec n) : BitVec n := b
/-- Signed minimum (R189). -/
def minOp (n : Nat) (a b : BitVec n) : BitVec n := if a.toInt < b.toInt then a else b
/-- Signed maximum (R189). -/
def maxOp (n : Nat) (a b : BitVec n) : BitVec n := if a.toInt > b.toInt then a else b
/-- Unsigned minimum (R189). -/
def minuOp (n : Nat) (a b : BitVec n) : BitVec n := if a.toNat < b.toNat then a else b
/-- Unsigned maximum (R189). -/
def maxuOp (n : Nat) (a b : BitVec n) : BitVec n := if a.toNat > b.toNat then a else b

/-! ### Widening of a loaded value (R141) -/

/-- Sign extension from 8 bits (R143). -/
def sext8 (v : Word) : Word := (v.setWidth 8).signExtend 64
/-- Sign extension from 16 bits (R144). -/
def sext16 (v : Word) : Word := (v.setWidth 16).signExtend 64
/-- Sign extension from 32 bits (R145). -/
def sextLow32 (v : Word) : Word := sext32 (v.setWidth 32)
/-- A value that memory delivers zero-extended, taken as it is (R146 to R149). -/
def zextLoad (v : Word) : Word := v

end Sys2Proof.Machine
end

