-- ==== Sys2Proof/Machine/Oracle.lean ====
section
/-! DEFINITION. The counter oracle (R448, R507, D23): how far the two time counters move over one instruction. Each is
a free value of the instruction and of the whole state before it, so that nothing relates the advance over one
instruction to the advance over another, or over the same one from another state. -/
namespace Sys2Proof.Config

/-- Free value: how far the cycle counter moves over an instruction that completes, from the instruction and the state
before it; the rate "will depend on the implementation and operating environment" (R443, R448, U7). A natural number,
so that the counter is non-decreasing; nothing else can be proved of it (R507). -/
opaque cycleTick : Instr → Machine.State → Nat

/-- Free value: how far the real-time counter moves over an instruction that completes, from the instruction and the
state before it (R444, R448, R507, U8). -/
opaque timeTick : Instr → Machine.State → Nat

end Sys2Proof.Config
end

