-- ==== Sys2Proof/Machine/Ops.lean ====
section
/-! DEFINITION. The named operations over the state: registers, the pc, memory accesses, raising an exception, and the
shapes that the instruction families share. -/
namespace Sys2Proof.Machine

/-- The outcome of an instruction or a step. -/
abbrev Out := Host.Outcome State Fault Refusal

/-! ### Parameters -/

def State.xlen (s : State) : Xlen := s.params.xlen
def State.endian (s : State) : Endian := s.params.endian

/-! ### Registers (R21, R22, R25, R26) -/

/-- `x[r]`: zero for x0, else the register's `XPRLEN` bits (R9, R22). -/
def State.getX (s : State) (r : XReg) : Word :=
  if r = 0#5 then 0#64 else s.xlen.wrap (s.x[r.toNat]'(BitVec.isLt r))

/-- `x[r] <- v`: a write to x0 is discarded (R9, R22). -/
def State.setX (s : State) (r : XReg) (v : Word) : State :=
  { s with x := if r = 0#5 then s.x else s.x.set r.toNat (s.xlen.wrap v) (BitVec.isLt r) }

/-- The content of an f register with its tag (R25). -/
def State.cellF (s : State) (r : FReg) : FCell := s.f[r.toNat]'(BitVec.isLt r)

/-- `fS[r]`: a register last written as a double delivers a free value (R25, D12). -/
def State.getS (s : State) (r : FReg) : BitVec 32 :=
  match s.cellF r with
  | .s b => b
  | .d b => Config.crossS s.draws r b

/-- `fD[r]`: a register last written as a single delivers a free value (R25, D12). -/
def State.getD (s : State) (r : FReg) : BitVec 64 :=
  match s.cellF r with
  | .s b => Config.crossD s.draws r b
  | .d b => b

/-- `fF[r]` for a format, a single standing in the low 32 bits (R25, R311). -/
def State.getF (s : State) (F : Fmt) (r : FReg) : FBits :=
  match F with
  | .s => (s.getS r).setWidth 64
  | .d => s.getD r

/-- The cell that a pattern of a format makes (R25). -/
def cellOf (F : Fmt) (b : FBits) : FCell :=
  match F with
  | .s => .s (b.setWidth 32)
  | .d => .d b

/-- `fF[r] <- b` for a format (R25). -/
def State.setF (s : State) (F : Fmt) (r : FReg) (b : FBits) : State :=
  { s with f := s.f.set r.toNat (cellOf F b) (BitVec.isLt r) }

/-- The pc as the `XPRLEN`-bit value it is (R26). -/
def State.pcVal (s : State) : Word := s.xlen.wrap s.pc

/-- `pc <- target`, modulo 2^XPRLEN (R11, R27). -/
def State.setPc (s : State) (target : Word) : State := { s with pc := s.xlen.wrap target }

/-- The address of the following instruction, `pc + 4` modulo 2^XPRLEN (R27). -/
def State.nextPc (s : State) : Word := s.xlen.wrap (s.pcVal + 4)

/-- The implicit `pc <- pc + 4` of an instruction that transfers no control (R11, R27). -/
def State.advance (s : State) : State := s.setPc (s.pcVal + 4)

/-! ### Exceptions (R11, R460, R469)

The document gives no trap entry, saved register, handler address or return: raising an exception ends the step with
the outcome, and the state to go on from is the state before the step. -/

/-- `raise E`: the instruction makes none of its writes and the step ends with the trap, which records the pc. -/
def raise (E : Word → Fault) (s : State) : Out := .fault (E s.pcVal)

/-- `raise IllegalInstruction(pc, inst)` for an instruction word (R461). -/
def raiseIllegalWord (w : InstWord) (s : State) : Out := raise (fun pc => .illegalInstruction pc w) s

/-- `raise IllegalInstruction(pc, inst)` from the instruction that runs (R461). -/
def raiseIllegal (i : Instr) (s : State) : Out := raiseIllegalWord (encode i) s

/-- An RV64-only instruction: on RV32 it is illegal before anything else (R112, R471). -/
def rv64Only (i : Instr) (s : State) (k : Out) : Out :=
  match s.xlen with
  | .rv32 => raiseIllegal i s
  | .rv64 => k

/-- An OP-IMM shift: on RV32 a set sixth bit of the amount is illegal (R207). -/
def shamtLegal (i : Instr) (shamt : BitVec 6) (s : State) (k : Out) : Out :=
  match s.xlen with
  | .rv32 => if shamt.getLsbD 5 then raiseIllegal i s else k
  | .rv64 => k

/-- `m <- RM(inst)`, which traps when it names no mode, before any operand is read (R312, R471). -/
def withMode (i : Instr) (rm : RmField) (s : State) (k : RMode → Out) : Out :=
  match resolveMode rm s.fsrRM with
  | some m => k m
  | none => raiseIllegal i s

/-! ### Memory (R52, R53, R62, R63) -/

/-- One byte of memory. -/
def State.readByte (s : State) (a : Nat) : Byte := Memory.read s.mem a

/-- The effective address of a load or store (R140). -/
def State.effAddr (s : State) (rs1 : XReg) (imm : BitVec 12) : Word :=
  s.xlen.wrap (s.getX rs1 + immWord imm)

/-- The byte addresses of an access (R63). -/
def State.addrs (s : State) (addr : Word) (n : Nat) : List Nat := accessAddrs s.xlen addr n

/-- `MemRead(addr, n)`, zeros above its `8n` bits (R52). -/
def State.load (s : State) (addr : Word) (n : Nat) : Word :=
  valueOfBytes s.endian ((s.addrs addr n).map s.readByte)

/-- The cells that `MemWrite(addr, n, v)` writes (R53). -/
def State.storeCells (s : State) (addr : Word) (n : Nat) (v : Word) : List Host.Cell :=
  (s.addrs addr n).zip (bytesOfValue s.endian n v)

/-- `MemWrite(addr, n, v)` (R53); the replaced parcels stay visible to fetch until a FENCE.I (R68). -/
def State.store (s : State) (addr : Word) (n : Nat) (v : Word) : State :=
  let mem' := Memory.writeAll s.mem (s.storeCells addr n v)
  { s with
    mem := mem'
    stale := s.stale ++ storeHistory s.mem mem' (decide (addr.toNat % n = 0)) (s.addrs addr n) }

/-- An access goes on only when `MEM_VALID` admits every one of its bytes; otherwise nothing is read or written
(R52, R53, R62). -/
def withAccess (k : AccessKind) (addr : Word) (n : Nat) (s : State) (go : Out) : Out :=
  match firstRefused s.params k (s.addrs addr n) with
  | none => go
  | some a => raise (fun pc => .accessFault pc a k) s

/-! ### Retirement (R14, R445, R448) -/

/-- What the completion of an instruction `i`, run from the state `s`, adds to its effect `t`: one more retired
instruction, the two other counters moved by what the oracle draws for `i` and `s`, and the next draw (DESIGN CHOICE for
the form: log entry 17). -/
def State.retire (i : Instr) (s t : State) : State :=
  { t with
    instret := t.instret + 1
    cycle := t.cycle + Config.cycleTick i s
    time := t.time + Config.timeTick i s
    draws := t.draws + 1 }

/-- A step that completes without raising an exception retires its instruction; a trap retires nothing (D23). -/
def retired (i : Instr) (s : State) : Out → Out
  | .next t => .next (State.retire i s t)
  | .fault f => .fault f
  | .refused r => .refused r

/-! ### Shapes of instructions -/

/-- `x[rd] <- v; pc <- pc + 4`. -/
def writeX (rd : XReg) (v : Word) (s : State) : Out := .next ((s.setX rd v).advance)

/-- An integer load: `n` bytes, widened to `XPRLEN` bits (R141). -/
def loadX (n : Nat) (widen : Word → Word) (rd rs1 : XReg) (imm : BitVec 12) (s : State) : Out :=
  let ea := s.effAddr rs1 imm
  withAccess .read ea n s (writeX rd (widen (s.load ea n)) s)

/-- A floating-point load (R160). -/
def loadF (F : Fmt) (n : Nat) (rd : FReg) (rs1 : XReg) (imm : BitVec 12) (s : State) : Out :=
  let ea := s.effAddr rs1 imm
  withAccess .read ea n s (.next ((s.setF F rd (s.load ea n)).advance))

/-- A store of the low `n` bytes of a value (R142, R160). -/
def storeAt (n : Nat) (v : Word) (rs1 : XReg) (imm : BitVec 12) (s : State) : Out :=
  let ea := s.effAddr rs1 imm
  withAccess .write ea n s (.next ((s.store ea n v).advance))

/-- An AMO: the alignment check, then the read and the write of one access, the loaded value to rd (R170, R171). -/
def amo (n : Nat) (op : Word → Word → Word) (widen : Word → Word) (rd rs1 rs2 : XReg) (s : State) : Out :=
  let addr := s.getX rs1
  if addr.toNat % n ≠ 0 then raise (fun pc => .amoAddressMisaligned pc addr) s
  else withAccess .read addr n s (withAccess .write addr n s (
    let old := s.load addr n
    .next (((s.store addr n (op old (s.getX rs2))).setX rd (widen old)).advance)))

/-- A 32-bit AMO: the operation on the low 32 bits of rs2, the loaded word sign-extended (R170, R171). -/
def amoW (op : (n : Nat) → BitVec n → BitVec n → BitVec n) (rd rs1 rs2 : XReg) (s : State) : Out :=
  amo 4 (fun a b => (op 32 (a.setWidth 32) (b.setWidth 32)).setWidth 64) sextLow32 rd rs1 rs2 s

/-- A 64-bit AMO (R170). -/
def amoD (op : (n : Nat) → BitVec n → BitVec n → BitVec n) (rd rs1 rs2 : XReg) (s : State) : Out :=
  amo 8 (op 64) zextLoad rd rs1 rs2 s

/-- A register-register operation on `XPRLEN` bits (R230). -/
def regReg (op : (n : Nat) → BitVec n → BitVec n → BitVec n) (rd rs1 rs2 : XReg) (s : State) : Out :=
  writeX rd (liftX s.xlen op (s.getX rs1) (s.getX rs2)) s

/-- A register-immediate operation on `XPRLEN` bits (R200). -/
def regImm (op : (n : Nat) → BitVec n → BitVec n → BitVec n) (rd rs1 : XReg) (imm : BitVec 12)
    (s : State) : Out :=
  writeX rd (liftX s.xlen op (s.getX rs1) (immWord imm)) s

/-- A shift by a constant on `XPRLEN` bits (R207). -/
def regShift (op : (n : Nat) → BitVec n → BitVec n → BitVec n) (rd rs1 : XReg) (shamt : BitVec 6)
    (s : State) : Out :=
  writeX rd (liftX s.xlen op (s.getX rs1) (shamt.setWidth 64)) s

/-- A W operation on a register and a second operand (R217). -/
def regW (op : (n : Nat) → BitVec n → BitVec n → BitVec n) (rd rs1 : XReg) (b : Word) (s : State) : Out :=
  writeX rd (lift32 (op 32) (s.getX rs1) b) s

/-- A comparison of two values, 1 or 0 to rd (R202, R233). -/
def compareX (test : (n : Nat) → BitVec n → BitVec n → Bool) (rd rs1 : XReg) (b : Word) (s : State) : Out :=
  writeX rd (boolWord (testX s.xlen test (s.getX rs1) b)) s

/-- A conditional branch (R288). -/
def branch (taken : Bool) (imm : BitVec 12) (s : State) : Out :=
  if taken then .next (s.setPc (s.pcVal + branchOffset imm)) else .next s.advance

/-- JALR: the target from the old value of rs1, then the link, then the jump (R283). -/
def jalr (rd rs1 : XReg) (imm : BitVec 12) (s : State) : Out :=
  let t := s.getX rs1 + immWord imm
  .next ((s.setX rd s.nextPc).setPc t)

end Sys2Proof.Machine
end

