-- ==== Sys2Proof/Machine/Amo.lean ====
section
/-! DEFINITION. Atomic memory operations (R170 to R189). One meaning per instruction. -/
namespace Sys2Proof.Machine

/-- AMOADD.W (R172). -/
def execAmoaddW (rd rs1 rs2 : XReg) (s : State) : Out :=
  amoW addOp rd rs1 rs2 s

/-- AMOSWAP.W (R173). -/
def execAmoswapW (rd rs1 rs2 : XReg) (s : State) : Out :=
  amoW swapOp rd rs1 rs2 s

/-- AMOAND.W (R174). -/
def execAmoandW (rd rs1 rs2 : XReg) (s : State) : Out :=
  amoW andOp rd rs1 rs2 s

/-- AMOOR.W (R175). -/
def execAmoorW (rd rs1 rs2 : XReg) (s : State) : Out :=
  amoW orOp rd rs1 rs2 s

/-- AMOMIN.W (R176). -/
def execAmominW (rd rs1 rs2 : XReg) (s : State) : Out :=
  amoW minOp rd rs1 rs2 s

/-- AMOMAX.W (R177). -/
def execAmomaxW (rd rs1 rs2 : XReg) (s : State) : Out :=
  amoW maxOp rd rs1 rs2 s

/-- AMOMINU.W (R178). -/
def execAmominuW (rd rs1 rs2 : XReg) (s : State) : Out :=
  amoW minuOp rd rs1 rs2 s

/-- AMOMAXU.W (R179). -/
def execAmomaxuW (rd rs1 rs2 : XReg) (s : State) : Out :=
  amoW maxuOp rd rs1 rs2 s

/-- AMOADD.D (R180). -/
def execAmoaddD (rd rs1 rs2 : XReg) (s : State) : Out :=
  rv64Only (.amoaddD rd rs1 rs2) s (amoD addOp rd rs1 rs2 s)

/-- AMOSWAP.D (R181). -/
def execAmoswapD (rd rs1 rs2 : XReg) (s : State) : Out :=
  rv64Only (.amoswapD rd rs1 rs2) s (amoD swapOp rd rs1 rs2 s)

/-- AMOAND.D (R182). -/
def execAmoandD (rd rs1 rs2 : XReg) (s : State) : Out :=
  rv64Only (.amoandD rd rs1 rs2) s (amoD andOp rd rs1 rs2 s)

/-- AMOOR.D (R183). -/
def execAmoorD (rd rs1 rs2 : XReg) (s : State) : Out :=
  rv64Only (.amoorD rd rs1 rs2) s (amoD orOp rd rs1 rs2 s)

/-- AMOMIN.D (R184). -/
def execAmominD (rd rs1 rs2 : XReg) (s : State) : Out :=
  rv64Only (.amominD rd rs1 rs2) s (amoD minOp rd rs1 rs2 s)

/-- AMOMAX.D (R185). -/
def execAmomaxD (rd rs1 rs2 : XReg) (s : State) : Out :=
  rv64Only (.amomaxD rd rs1 rs2) s (amoD maxOp rd rs1 rs2 s)

/-- AMOMINU.D (R186). -/
def execAmominuD (rd rs1 rs2 : XReg) (s : State) : Out :=
  rv64Only (.amominuD rd rs1 rs2) s (amoD minuOp rd rs1 rs2 s)

/-- AMOMAXU.D (R187). -/
def execAmomaxuD (rd rs1 rs2 : XReg) (s : State) : Out :=
  rv64Only (.amomaxuD rd rs1 rs2) s (amoD maxuOp rd rs1 rs2 s)

end Sys2Proof.Machine
end

