-- ==== Sys2Proof/Machine/Control.lean ====
section
/-! DEFINITION. Jumps, RDNPC and conditional branches (R280 to R298). One meaning per instruction. -/
namespace Sys2Proof.Machine

/-- J (R281). -/
def execJ (off : BitVec 25) (s : State) : Out :=
  .next (s.setPc (s.pcVal + jumpOffset off))

/-- JAL (R282). The link register is always x1. -/
def execJal (off : BitVec 25) (s : State) : Out :=
  .next ((s.setX 1 s.nextPc).setPc (s.pcVal + jumpOffset off))

/-- JALR.C (R284). -/
def execJalrC (rd rs1 : XReg) (imm : BitVec 12) (s : State) : Out :=
  jalr rd rs1 imm s

/-- JALR.R (R285). -/
def execJalrR (rd rs1 : XReg) (imm : BitVec 12) (s : State) : Out :=
  jalr rd rs1 imm s

/-- JALR.J (R286). -/
def execJalrJ (rd rs1 : XReg) (imm : BitVec 12) (s : State) : Out :=
  jalr rd rs1 imm s

/-- RDNPC (R287). -/
def execRdnpc (rd : XReg) (s : State) : Out :=
  writeX rd s.nextPc s

/-- BEQ (R289). -/
def execBeq (rs1 rs2 : XReg) (imm : BitVec 12) (s : State) : Out :=
  branch (testX s.xlen eqTest (s.getX rs1) (s.getX rs2)) imm s

/-- BNE (R290). -/
def execBne (rs1 rs2 : XReg) (imm : BitVec 12) (s : State) : Out :=
  branch (!testX s.xlen eqTest (s.getX rs1) (s.getX rs2)) imm s

/-- BLT (R291). -/
def execBlt (rs1 rs2 : XReg) (imm : BitVec 12) (s : State) : Out :=
  branch (testX s.xlen sltTest (s.getX rs1) (s.getX rs2)) imm s

/-- BGE (R292). -/
def execBge (rs1 rs2 : XReg) (imm : BitVec 12) (s : State) : Out :=
  branch (!testX s.xlen sltTest (s.getX rs1) (s.getX rs2)) imm s

/-- BLTU (R293). -/
def execBltu (rs1 rs2 : XReg) (imm : BitVec 12) (s : State) : Out :=
  branch (testX s.xlen ultTest (s.getX rs1) (s.getX rs2)) imm s

/-- BGEU (R294). -/
def execBgeu (rs1 rs2 : XReg) (imm : BitVec 12) (s : State) : Out :=
  branch (!testX s.xlen ultTest (s.getX rs1) (s.getX rs2)) imm s

end Sys2Proof.Machine
end

