-- ==== Sys2Proof/Machine/Fetch.lean ====
section
/-! DEFINITION. Instruction fetch: two parcels, low parcel first, each as memory now holds it or, after a store that
no FENCE.I has followed, as it stood before (R54, R68, R504, D30). -/
namespace Sys2Proof.Machine

/-- The earlier values of a parcel that fetch may still see. -/
def State.oldParcels (s : State) (p : Nat) : List StaleParcel := s.stale.filter fun o => o.addr == p

/-- The parcel value that this fetch sees: the current one, or a free choice among it and the earlier ones (R68). -/
def State.seenParcel (s : State) (p : Nat) : StaleParcel :=
  let cur := currentParcel s.mem p
  match s.oldParcels p with
  | [] => cur
  | o :: os => (cur :: o :: os).getD (Config.fetchChoice s.draws p % (os.length + 2)) cur

/-- One parcel as fetch sees it, its bytes in the machine's byte order (R54). -/
def State.fetchParcel (s : State) (p : Nat) : BitVec 16 :=
  parcelOf s.endian (s.seenParcel p).b0 (s.seenParcel p).b1

/-- The instruction word at a four-byte-aligned address: the lower-addressed parcel holds the low bits (R54). -/
def State.fetchWord (s : State) (a : Nat) : InstWord := s.fetchParcel (a + 2) ++ s.fetchParcel a

/-- Fetch: the pc is checked before anything is fetched, then `MEM_VALID`, then the word is read (R14, R55, R471). -/
def withFetch (s : State) (k : InstWord → Out) : Out :=
  let pc := s.pcVal
  if pc.toNat % 4 ≠ 0 then raise (fun pc => .instructionAddressMisaligned pc) s
  else withAccess .fetch pc 4 s (k (s.fetchWord pc.toNat))

/-- The state with a word placed where the next fetch reads: at the pc (moved down to a multiple of 4 where it is
none), in the machine's byte order, admitted for fetch, with no earlier value left to see. -/
def State.plantWord (s : State) (w : InstWord) : State :=
  let a := s.pcVal.toNat - s.pcVal.toNat % 4
  { s with
    pc := BitVec.ofNat 64 a
    params :=
      match firstRefused s.params .fetch [a, a + 1, a + 2, a + 3] with
      | none => s.params
      | some _ =>
        { s.params with
          memValid := { base := a, size := 4, fetch := true, read := false, write := false } :: s.params.memValid }
    mem := Memory.writeAll s.mem ([a, a + 1, a + 2, a + 3].zip (wordBytes s.endian w))
    stale := s.stale.filter fun o => o.addr != a && o.addr != a + 2 }

/-- FENCE.I: every later fetch sees every earlier store of this thread (R68, R431). -/
def State.fenceI (s : State) : State := { s with stale := [] }

end Sys2Proof.Machine
end

