-- ==== Sys2Proof/Machine/Fence.lean ====
section
/-! DEFINITION. FENCE and FENCE.I (R430, R431). One meaning per instruction. -/
namespace Sys2Proof.Machine

/-- FENCE (R430). In a machine of one hardware thread a FENCE changes nothing but the pc (R65, R430): its ordering is seen by other threads only. -/
def execFence (_rd _rs1 : BitVec 5) (_imm : BitVec 12) (s : State) : Out :=
  .next s.advance

/-- FENCE.I (R431). -/
def execFenceI (_rd _rs1 : BitVec 5) (_imm : BitVec 12) (s : State) : Out :=
  .next s.fenceI.advance

end Sys2Proof.Machine
end

