-- ==== Sys2Proof/Machine/Float.lean ====
section
/-! DEFINITION. Floating-point values and arithmetic on patterns (R310 to R321, R342, R370, R380, R401): unpacking, the
exact result as a sign and a rational magnitude, one rounding, and the default results of exceptional cases. A result
is a pattern with the set of flags that it raises. -/
namespace Sys2Proof.Machine

/-! ### Formats (R310) -/

/-- Width of the exponent field. -/
def expBits : Fmt → Nat
  | .s => 8
  | .d => 11

/-- Width of the fraction field, `t`. -/
def fracBits : Fmt → Nat
  | .s => 23
  | .d => 52

/-- Position of the sign bit. -/
def signPos (F : Fmt) : Nat := expBits F + fracBits F

/-- Exponent bias, which is also `emax`. -/
def expBias (F : Fmt) : Nat := 2 ^ (expBits F - 1) - 1

/-- Exponent of the smallest normal number. -/
def expMin (F : Fmt) : Int := 1 - expBias F

/-- Exponent of the largest finite numbers. -/
def expMax (F : Fmt) : Int := expBias F

/-- Precision `p = t + 1`. -/
def precision (F : Fmt) : Nat := fracBits F + 1

/-! ### Fields of a pattern (R310) -/

def signOf (F : Fmt) (b : FBits) : Bool := b.getLsbD (signPos F)
def expOf (F : Fmt) (b : FBits) : Nat := b.toNat / 2 ^ fracBits F % 2 ^ expBits F
def fracOf (F : Fmt) (b : FBits) : Nat := b.toNat % 2 ^ fracBits F

/-- A pattern from its sign and the bits below the sign. -/
def patternOf (F : Fmt) (neg : Bool) (mag : Nat) : FBits :=
  BitVec.ofNat 64 ((if neg then 2 ^ signPos F else 0) + mag)

/-- The bits below the sign of an infinity. -/
def infMag (F : Fmt) : Nat := (2 ^ expBits F - 1) * 2 ^ fracBits F

/-- Infinity with a sign. -/
def infinityOf (F : Fmt) (neg : Bool) : FBits := patternOf F neg (infMag F)

/-- Zero with a sign. -/
def zeroOf (F : Fmt) (neg : Bool) : FBits := patternOf F neg 0

/-- The largest finite magnitude with a sign. -/
def largestOf (F : Fmt) (neg : Bool) : FBits := patternOf F neg (infMag F - 1)

/-- The canonical NaN: sign 0, every exponent and fraction bit 1 (R314). -/
def canonicalNaN (F : Fmt) : FBits := patternOf F false (2 ^ signPos F - 1)

/-- A pattern with the quiet bit, the top fraction bit, set (R314, D19). -/
def quieted (F : Fmt) (b : FBits) : FBits := b ||| BitVec.ofNat 64 (2 ^ (fracBits F - 1))

/-! ### Values -/

/-- What a pattern denotes: a NaN, an infinity, or (−1)^neg × m × 2^e (R310). -/
inductive FVal where
  /-- A NaN, signaling or quiet. -/
  | nan (signaling : Bool)
  /-- An infinity. -/
  | inf (neg : Bool)
  /-- A finite number; a zero has `m = 0`. -/
  | fin (neg : Bool) (m : Nat) (e : Int)
deriving DecidableEq, Repr

/-- The value of a pattern (R310). -/
def unpack (F : Fmt) (b : FBits) : FVal :=
  if expOf F b = 2 ^ expBits F - 1 then
    if fracOf F b = 0 then .inf (signOf F b)
    else .nan (decide (fracOf F b < 2 ^ (fracBits F - 1)))
  else if expOf F b = 0 then .fin (signOf F b) (fracOf F b) (expMin F - fracBits F)
  else .fin (signOf F b) (2 ^ fracBits F + fracOf F b) (expOf F b - expBias F - fracBits F)

def FVal.isNaN : FVal → Bool
  | .nan _ => true
  | .inf _ => false
  | .fin _ _ _ => false

def FVal.isSignaling : FVal → Bool
  | .nan sig => sig
  | .inf _ => false
  | .fin _ _ _ => false

/-- The value with its sign reversed. -/
def FVal.negate : FVal → FVal
  | .nan sig => .nan sig
  | .inf neg => .inf (!neg)
  | .fin neg m e => .fin (!neg) m e

/-- The signed integer that `neg` and `m` make. -/
def signedMag (neg : Bool) (m : Nat) : Int := if neg then -(m : Int) else m

/-! ### Rounding (R317, R319) -/

/-- The magnitude `num / den × 2^e` as a fraction in units of `2^g`. -/
def inUnits (num den : Nat) (e g : Int) : Nat × Nat :=
  if g ≤ e then (num * 2 ^ (e - g).toNat, den) else (num, den * 2 ^ (g - e).toNat)

/-- Whether the magnitude goes up to the next unit: `q` whole units below it, `r` of `d` parts of a unit left
(R319). -/
def roundsUp (m : RMode) (neg : Bool) (q r d : Nat) : Bool :=
  match m with
  | .rne => decide (2 * r > d) || (decide (2 * r = d) && decide (q % 2 = 1))
  | .rtz => false
  | .rdn => neg && decide (r ≠ 0)
  | .rup => !neg && decide (r ≠ 0)
  | .rmm => decide (2 * r ≥ d)

/-- The fraction `n / d` rounded to a whole number of units; true when it was not one (R319). -/
def roundUnits (m : RMode) (neg : Bool) (n d : Nat) : Nat × Bool :=
  (if roundsUp m neg (n / d) (n % d) d then n / d + 1 else n / d, decide (n % d ≠ 0))

/-- The exponent `E` with `2^E ≤ num / den × 2^e < 2^(E+1)`. -/
def magExponent (num den : Nat) (e : Int) : Int :=
  let k : Int := (Nat.log2 num : Int) - (Nat.log2 den : Int)
  let (n, d) := inUnits num den 0 k
  if d ≤ n then k + e else k - 1 + e

/-- What overflow delivers (R317). -/
def overflowResult (F : Fmt) (m : RMode) (neg : Bool) : FBits :=
  match m with
  | .rne => infinityOf F neg
  | .rtz => largestOf F neg
  | .rdn => if neg then infinityOf F neg else largestOf F neg
  | .rup => if neg then largestOf F neg else infinityOf F neg
  | .rmm => infinityOf F neg

/-- `Round(F, m, r)` for the non-zero exact `r = ± num / den × 2^e` (R317): `u` is `r` to `p` significant bits with
unbounded exponent, `v` is `r` on the subnormal grid. -/
def roundTo (F : Fmt) (m : RMode) (neg : Bool) (num den : Nat) (e : Int) : FBits × FlagSet :=
  let E := magExponent num den e
  let p := precision F
  let (un, ud) := inUnits num den e (E - fracBits F)
  let u := roundUnits m neg un ud
  let Eu := if u.1 = 2 ^ p then E + 1 else E
  if expMax F < Eu then
    (overflowResult F m neg, flagOF ||| flagNX)
  else if expMin F ≤ E then
    (patternOf F neg ((E - expMin F).toNat * 2 ^ fracBits F + u.1), flagIf u.2 flagNX)
  else
    let (vn, vd) := inUnits num den e (expMin F - fracBits F)
    let v := roundUnits m neg vn vd
    let tiny := decide (Eu < expMin F) || Config.tinyBeforeRounding
    (patternOf F neg v.1, flagIf v.2 flagNX ||| flagIf (v.2 && tiny) flagUF)

/-! ### NaNs (R314) -/

/-- The result when an input is a NaN: the first signaling input quieted, with NV, else the first quiet one. -/
def nanResult (F : Fmt) (inputs : List FBits) : FBits × FlagSet :=
  match inputs.find? fun b => (unpack F b).isSignaling with
  | some b => (quieted F b, flagNV)
  | none =>
    match inputs.find? fun b => (unpack F b).isNaN with
    | some b => (b, flagNone)
    | none => (canonicalNaN F, flagNV)

/-- The result of an invalid operation on non-NaN inputs (R314, R320). -/
def invalidResult (F : Fmt) : FBits × FlagSet := (canonicalNaN F, flagNV)

/-! ### Arithmetic with one or two sources (R320, R321) -/

/-- The exact sum of two finite numbers, in units of the smaller exponent. -/
def exactSum (neg1 : Bool) (m1 : Nat) (e1 : Int) (neg2 : Bool) (m2 : Nat) (e2 : Int) : Int × Int :=
  let e := min e1 e2
  (signedMag neg1 m1 * 2 ^ (e1 - e).toNat + signedMag neg2 m2 * 2 ^ (e2 - e).toNat, e)

/-- The sign of a sum that is exactly zero: the addends' sign when they are zeros of one sign, else + except that RDN
gives − (R321). -/
def zeroSumSign (m : RMode) (neg1 neg2 : Bool) (bothZero : Bool) : Bool :=
  if bothZero && neg1 == neg2 then neg1 else m == .rdn

/-- The sum of two non-NaN values, rounded once (R320, R321). -/
def sumOf (F : Fmt) (m : RMode) (a b : FVal) : FBits × FlagSet :=
  match a, b with
  | .inf n1, .inf n2 => if n1 = n2 then (infinityOf F n1, flagNone) else invalidResult F
  | .inf n1, .fin _ _ _ => (infinityOf F n1, flagNone)
  | .fin _ _ _, .inf n2 => (infinityOf F n2, flagNone)
  | .fin n1 m1 e1, .fin n2 m2 e2 =>
    let r := exactSum n1 m1 e1 n2 m2 e2
    if r.1 = 0 then (zeroOf F (zeroSumSign m n1 n2 (m1 == 0 && m2 == 0)), flagNone)
    else roundTo F m (decide (r.1 < 0)) r.1.natAbs 1 r.2
  | .nan _, _ => invalidResult F
  | _, .nan _ => invalidResult F

/-- FADD (R320, R322). -/
def fadd (F : Fmt) (m : RMode) (a b : FBits) : FBits × FlagSet :=
  if (unpack F a).isNaN || (unpack F b).isNaN then nanResult F [a, b]
  else sumOf F m (unpack F a) (unpack F b)

/-- FSUB: `a + (−b)`; a NaN in `b` is returned as it is (R321, R323). -/
def fsub (F : Fmt) (m : RMode) (a b : FBits) : FBits × FlagSet :=
  if (unpack F a).isNaN || (unpack F b).isNaN then nanResult F [a, b]
  else sumOf F m (unpack F a) (unpack F b).negate

/-- The exact product of two non-NaN values; none for 0 × ∞ (R320, R342). -/
def productOf (a b : FVal) : Option FVal :=
  match a, b with
  | .inf n1, .inf n2 => some (.inf (n1 ^^ n2))
  | .inf n1, .fin n2 m2 _ => if m2 = 0 then none else some (.inf (n1 ^^ n2))
  | .fin n1 m1 _, .inf n2 => if m1 = 0 then none else some (.inf (n1 ^^ n2))
  | .fin n1 m1 e1, .fin n2 m2 e2 => some (.fin (n1 ^^ n2) (m1 * m2) (e1 + e2))
  | .nan _, _ => none
  | _, .nan _ => none

/-- An exact value as a result of its own: an infinity, a signed zero, or rounded (R320). -/
def deliver (F : Fmt) (m : RMode) : FVal → FBits × FlagSet
  | .nan _ => invalidResult F
  | .inf neg => (infinityOf F neg, flagNone)
  | .fin neg k e => if k = 0 then (zeroOf F neg, flagNone) else roundTo F m neg k 1 e

/-- FMUL (R320, R324). -/
def fmul (F : Fmt) (m : RMode) (a b : FBits) : FBits × FlagSet :=
  if (unpack F a).isNaN || (unpack F b).isNaN then nanResult F [a, b]
  else
    match productOf (unpack F a) (unpack F b) with
    | some r => deliver F m r
    | none => invalidResult F

/-- The quotient of two non-NaN values (R320, R321, R325). -/
def quotientOf (F : Fmt) (m : RMode) (a b : FVal) : FBits × FlagSet :=
  match a, b with
  | .inf _, .inf _ => invalidResult F
  | .inf n1, .fin n2 _ _ => (infinityOf F (n1 ^^ n2), flagNone)
  | .fin n1 _ _, .inf n2 => (zeroOf F (n1 ^^ n2), flagNone)
  | .fin n1 m1 e1, .fin n2 m2 e2 =>
    if m2 = 0 then
      if m1 = 0 then invalidResult F else (infinityOf F (n1 ^^ n2), flagDZ)
    else if m1 = 0 then (zeroOf F (n1 ^^ n2), flagNone)
    else roundTo F m (n1 ^^ n2) m1 m2 (e1 - e2)
  | .nan _, _ => invalidResult F
  | _, .nan _ => invalidResult F

/-- FDIV (R320, R325). -/
def fdiv (F : Fmt) (m : RMode) (a b : FBits) : FBits × FlagSet :=
  if (unpack F a).isNaN || (unpack F b).isNaN then nanResult F [a, b]
  else quotientOf F m (unpack F a) (unpack F b)

/-- Integer square root, one bit at a time from bit `k - 1` down. -/
def isqrtBits (n : Nat) : Nat → Nat → Nat
  | 0, r => r
  | k + 1, r => if (r + 2 ^ k) * (r + 2 ^ k) ≤ n then isqrtBits n k (r + 2 ^ k) else isqrtBits n k r

/-- The largest integer whose square is at most `n`. -/
def isqrt (n : Nat) : Nat := isqrtBits n (Nat.log2 n / 2 + 1) 0

/-- The square root of `k × 2^e`, `k` not zero: the operand scaled by an even power of two to a root of at least
`p + 2` bits; a remainder stands as one half of the root's last unit, which no rounding to `p` bits can tell from the
exact root. -/
def rootOf (F : Fmt) (m : RMode) (k : Nat) (e : Int) : FBits × FlagSet :=
  let s : Nat := 2 * (precision F + 2) + (e % 2).toNat
  let n := k * 2 ^ s
  let q := isqrt n
  roundTo F m false (2 * q + (if q * q = n then 0 else 1)) 1 ((e - s) / 2 - 1)

/-- FSQRT (R320, R321, R326). -/
def fsqrt (F : Fmt) (m : RMode) (a : FBits) : FBits × FlagSet :=
  match unpack F a with
  | .nan _ => nanResult F [a]
  | .inf neg => if neg then invalidResult F else (infinityOf F false, flagNone)
  | .fin neg k e =>
    if k = 0 then (zeroOf F neg, flagNone)
    else if neg then invalidResult F
    else rootOf F m k e

/-! ### Fused multiply-add (R342) -/

/-- `± (a × b) ± c` with one rounding: `negProduct` for FNMSUB and FNMADD, `negAddend` for FMSUB and FNMADD
(R342, D39). A NaN operand is returned without any sign change; 0 × ∞ with a quiet-NaN addend raises NV or not as
the free value says (D21). -/
def fma (F : Fmt) (m : RMode) (negProduct negAddend : Bool) (a b c : FBits) : FBits × FlagSet :=
  let va := unpack F a
  let vb := unpack F b
  let vc := unpack F c
  if va.isNaN || vb.isNaN || vc.isNaN then
    let r := nanResult F [a, b, c]
    let zeroTimesInf := !va.isNaN && !vb.isNaN && (productOf va vb).isNone
    (r.1, r.2 ||| flagIf (zeroTimesInf && Config.fmaInvalidQnanNv) flagNV)
  else
    match productOf va vb with
    | none => invalidResult F
    | some p => sumOf F m (if negProduct then p.negate else p) (if negAddend then vc.negate else vc)

/-! ### Order, minimum and maximum (R315, R327, R401) -/

/-- `a < b` for non-NaN values; −0 and +0 are equal. -/
def FVal.less (a b : FVal) : Bool :=
  match a, b with
  | .inf n1, .inf n2 => n1 && !n2
  | .inf n1, .fin _ _ _ => n1
  | .fin _ _ _, .inf n2 => !n2
  | .fin n1 m1 e1, .fin n2 m2 e2 => decide ((exactSum n1 m1 e1 (!n2) m2 e2).1 < 0)
  | .nan _, _ => false
  | _, .nan _ => false

/-- FMIN (`isMax` false) and FMAX (true): the NaN table, then the smaller or larger input as it stands; which of two
zeros of opposite sign is a free value (R315, R327, R328, D18). -/
def fminmax (F : Fmt) (isMax : Bool) (a b : FBits) : FBits × FlagSet :=
  let va := unpack F a
  let vb := unpack F b
  if va.isSignaling then (quieted F a, flagNV)
  else if vb.isSignaling then (quieted F b, flagNV)
  else if va.isNaN && vb.isNaN then (a, flagNone)
  else if va.isNaN then (b, flagNone)
  else if vb.isNaN then (a, flagNone)
  else if va.less vb then (if isMax then b else a, flagNone)
  else if vb.less va then (if isMax then a else b, flagNone)
  else if signOf F a = signOf F b then (a, flagNone)
  else (if Config.zeroPickFirst isMax F (signOf F a) then a else b, flagNone)

/-- The three comparisons (R401). -/
inductive FCmp where
  | eq
  | lt
  | le
deriving DecidableEq, Repr

/-- A comparison of non-NaN values (R401). -/
def FCmp.holds (c : FCmp) (a b : FVal) : Bool :=
  match c with
  | .eq => !a.less b && !b.less a
  | .lt => a.less b
  | .le => !b.less a

/-- FEQ, FLT, FLE: false on a NaN; FEQ raises NV for a signaling NaN, FLT and FLE for any NaN (R401, D20). -/
def fcompare (F : Fmt) (c : FCmp) (a b : FBits) : Bool × FlagSet :=
  let va := unpack F a
  let vb := unpack F b
  if va.isNaN || vb.isNaN then
    match c with
    | .eq => (false, flagIf (va.isSignaling || vb.isSignaling) flagNV)
    | .lt => (false, flagNV)
    | .le => (false, flagNV)
  else (c.holds va vb, flagNone)

/-! ### Sign injection (R390) -/

/-- A pattern with another sign. -/
def withSign (F : Fmt) (neg : Bool) (a : FBits) : FBits := patternOf F neg (a.toNat % 2 ^ signPos F)

/-- FSGNJ. -/
def fsgnj (F : Fmt) (a b : FBits) : FBits := withSign F (signOf F b) a
/-- FSGNJN. -/
def fsgnjn (F : Fmt) (a b : FBits) : FBits := withSign F (!signOf F b) a
/-- FSGNJX. -/
def fsgnjx (F : Fmt) (a b : FBits) : FBits := withSign F (signOf F a ^^ signOf F b) a

/-! ### Between the formats (R316, R388, R389) -/

/-- The NaN of the wider format: fraction in the top bits, quiet bit set (R316). -/
def widenNaN (a : FBits) : FBits :=
  quieted .d (patternOf .d (signOf .s a) (infMag .d + fracOf .s a * 2 ^ 29))

/-- The NaN of the narrower format: low fraction bits dropped, quiet bit set (R316). -/
def narrowNaN (a : FBits) : FBits :=
  quieted .s (patternOf .s (signOf .d a) (infMag .s + fracOf .d a / 2 ^ 29))

/-- FCVT.S.D (R388). -/
def fcvtSFromD (m : RMode) (a : FBits) : FBits × FlagSet :=
  match unpack .d a with
  | .nan sig => (narrowNaN a, flagIf sig flagNV)
  | .inf neg => (infinityOf .s neg, flagNone)
  | .fin neg k e => deliver .s m (.fin neg k e)

/-- FCVT.D.S: every single is exactly a double, so the mode never matters (R389). -/
def fcvtDFromS (m : RMode) (a : FBits) : FBits × FlagSet :=
  match unpack .s a with
  | .nan sig => (widenNaN a, flagIf sig flagNV)
  | .inf neg => (infinityOf .d neg, flagNone)
  | .fin neg k e => deliver .d m (.fin neg k e)

/-! ### Between floating point and integer (R370, R380) -/

/-- Least integer of a conversion target (R370). -/
def intLo : IntFmt → Int
  | .w => -2 ^ 31
  | .wu => 0
  | .l => -2 ^ 63
  | .lu => 0

/-- Greatest integer of a conversion target (R370). -/
def intHi : IntFmt → Int
  | .w => 2 ^ 31 - 1
  | .wu => 2 ^ 32 - 1
  | .l => 2 ^ 63 - 1
  | .lu => 2 ^ 64 - 1

/-- A finite value rounded to an integer; true when it was not one (R319, R370). -/
def toInteger (m : RMode) (neg : Bool) (k : Nat) (e : Int) : Int × Bool :=
  let (n, d) := inUnits k 1 e 0
  let r := roundUnits m neg n d
  (signedMag neg r.1, r.2)

/-- Float to integer: the integer as a two's-complement pattern, or the free value of an invalid conversion with NV
and not NX (R370, D16). -/
def toIntBits (F : Fmt) (I : IntFmt) (m : RMode) (a : FBits) : BitVec 64 × FlagSet :=
  match unpack F a with
  | .nan _ => (Config.fcvtInvalid I F a, flagNV)
  | .inf _ => (Config.fcvtInvalid I F a, flagNV)
  | .fin neg k e =>
    let r := toInteger m neg k e
    if r.1 < intLo I ∨ intHi I < r.1 then (Config.fcvtInvalid I F a, flagNV)
    else (BitVec.ofInt 64 r.1, flagIf r.2 flagNX)

/-- The XPRLEN-bit value of rd: W sign-extended, the upper half of WU on RV64 a free value, L and LU whole
(R370, D14). -/
def placeInt (xl : Xlen) (F : Fmt) (I : IntFmt) (v : BitVec 64) : Word :=
  match I with
  | .w => (v.setWidth 32).signExtend 64
  | .wu =>
    match xl with
    | .rv32 => (v.setWidth 32).setWidth 64
    | .rv64 => Config.fcvtWuUpper F (v.setWidth 32) ++ v.setWidth 32
  | .l => v
  | .lu => v

/-- The integer a conversion reads from a fixed-point register (R380, D15). -/
def sourceInt (I : IntFmt) (v : Word) : Int :=
  match I with
  | .w => (v.setWidth 32).toInt
  | .wu => (v.setWidth 32).toNat
  | .l => v.toInt
  | .lu => v.toNat

/-- Integer to float: zero is +0 in every mode, every other integer is rounded (R380). -/
def fromInteger (F : Fmt) (m : RMode) (n : Int) : FBits × FlagSet :=
  if n = 0 then (zeroOf F false, flagNone) else roundTo F m (decide (n < 0)) n.natAbs 1 0

end Sys2Proof.Machine
end

