-- ==== Sys2Proof/Machine/FpOps.lean ====
section
/-! DEFINITION. The shapes that the floating-point instructions share: the mode is resolved first, the operands are
read, the result and the flags are written in one step (R312, R313, R320, R342, R370, R380, R401). -/
namespace Sys2Proof.Machine

/-- `fF[rd] <- res; fsr[4:0] <- fsr[4:0] OR E; pc <- pc + 4` (R320). -/
def writeF (F : Fmt) (rd : FReg) (r : FBits × FlagSet) (s : State) : Out :=
  .next ((((s.setF F rd r.1)).raiseFlags r.2).advance)

/-- `x[rd] <- v; fsr[4:0] <- fsr[4:0] OR E; pc <- pc + 4` (R370, R401). -/
def writeXFlags (rd : XReg) (v : Word) (e : FlagSet) (s : State) : Out :=
  .next (((s.setX rd v).raiseFlags e).advance)

/-- Two sources and a rounding mode (R320). -/
def fpArith (i : Instr) (F : Fmt) (op : Fmt → RMode → FBits → FBits → FBits × FlagSet) (rd rs1 rs2 : FReg)
    (rm : RmField) (s : State) : Out :=
  withMode i rm s fun m => writeF F rd (op F m (s.getF F rs1) (s.getF F rs2)) s

/-- FSQRT (R320). -/
def fpRoot (i : Instr) (F : Fmt) (rd rs1 : FReg) (rm : RmField) (s : State) : Out :=
  withMode i rm s fun m => writeF F rd (fsqrt F m (s.getF F rs1)) s

/-- Fused multiply-add (R342). -/
def fpFused (i : Instr) (F : Fmt) (negProduct negAddend : Bool) (rd rs1 rs2 rs3 : FReg) (rm : RmField)
    (s : State) : Out :=
  withMode i rm s fun m =>
    writeF F rd (fma F m negProduct negAddend (s.getF F rs1) (s.getF F rs2) (s.getF F rs3)) s

/-- FMIN and FMAX: no rounding mode (R315, R327). -/
def fpMinMax (F : Fmt) (isMax : Bool) (rd rs1 rs2 : FReg) (s : State) : Out :=
  writeF F rd (fminmax F isMax (s.getF F rs1) (s.getF F rs2)) s

/-- Float to integer (R370). -/
def fpToInt (i : Instr) (F : Fmt) (I : IntFmt) (rd : XReg) (rs1 : FReg) (rm : RmField) (s : State) : Out :=
  withMode i rm s fun m =>
    let r := toIntBits F I m (s.getF F rs1)
    writeXFlags rd (placeInt s.xlen F I r.1) r.2 s

/-- Integer to float (R380). -/
def fpFromInt (i : Instr) (F : Fmt) (I : IntFmt) (rd : FReg) (rs1 : XReg) (rm : RmField) (s : State) : Out :=
  withMode i rm s fun m => writeF F rd (fromInteger F m (sourceInt I (s.getX rs1))) s

/-- Sign injection: no rounding, no flag (R390). -/
def fpSign (F : Fmt) (op : Fmt → FBits → FBits → FBits) (rd rs1 rs2 : FReg) (s : State) : Out :=
  .next ((s.setF F rd (op F (s.getF F rs1) (s.getF F rs2))).advance)

/-- A comparison (R401, D40). -/
def fpCompare (F : Fmt) (c : FCmp) (rd : XReg) (rs1 rs2 : FReg) (s : State) : Out :=
  let r := fcompare F c (s.getF F rs1) (s.getF F rs2)
  writeXFlags rd (boolWord r.1) r.2 s

end Sys2Proof.Machine
end

