-- ==== Sys2Proof/Machine/FpCompute.lean ====
section
/-! DEFINITION. Floating-point arithmetic, minimum and maximum, fused multiply-add (R320 to R344). One meaning per instruction. -/
namespace Sys2Proof.Machine

/-- FADD.S (R322). -/
def execFaddS (rd rs1 rs2 : FReg) (rm : RmField) (s : State) : Out :=
  fpArith (.faddS rd rs1 rs2 rm) .s fadd rd rs1 rs2 rm s

/-- FSUB.S (R323). -/
def execFsubS (rd rs1 rs2 : FReg) (rm : RmField) (s : State) : Out :=
  fpArith (.fsubS rd rs1 rs2 rm) .s fsub rd rs1 rs2 rm s

/-- FMUL.S (R324). -/
def execFmulS (rd rs1 rs2 : FReg) (rm : RmField) (s : State) : Out :=
  fpArith (.fmulS rd rs1 rs2 rm) .s fmul rd rs1 rs2 rm s

/-- FDIV.S (R325). -/
def execFdivS (rd rs1 rs2 : FReg) (rm : RmField) (s : State) : Out :=
  fpArith (.fdivS rd rs1 rs2 rm) .s fdiv rd rs1 rs2 rm s

/-- FSQRT.S (R326). -/
def execFsqrtS (rd rs1 : FReg) (rm : RmField) (s : State) : Out :=
  fpRoot (.fsqrtS rd rs1 rm) .s rd rs1 rm s

/-- FMIN.S (R327). -/
def execFminS (rd rs1 rs2 : FReg) (s : State) : Out :=
  fpMinMax .s false rd rs1 rs2 s

/-- FMAX.S (R328). -/
def execFmaxS (rd rs1 rs2 : FReg) (s : State) : Out :=
  fpMinMax .s true rd rs1 rs2 s

/-- FADD.D (R329). -/
def execFaddD (rd rs1 rs2 : FReg) (rm : RmField) (s : State) : Out :=
  fpArith (.faddD rd rs1 rs2 rm) .d fadd rd rs1 rs2 rm s

/-- FSUB.D (R330). -/
def execFsubD (rd rs1 rs2 : FReg) (rm : RmField) (s : State) : Out :=
  fpArith (.fsubD rd rs1 rs2 rm) .d fsub rd rs1 rs2 rm s

/-- FMUL.D (R331). -/
def execFmulD (rd rs1 rs2 : FReg) (rm : RmField) (s : State) : Out :=
  fpArith (.fmulD rd rs1 rs2 rm) .d fmul rd rs1 rs2 rm s

/-- FDIV.D (R332). -/
def execFdivD (rd rs1 rs2 : FReg) (rm : RmField) (s : State) : Out :=
  fpArith (.fdivD rd rs1 rs2 rm) .d fdiv rd rs1 rs2 rm s

/-- FSQRT.D (R333). -/
def execFsqrtD (rd rs1 : FReg) (rm : RmField) (s : State) : Out :=
  fpRoot (.fsqrtD rd rs1 rm) .d rd rs1 rm s

/-- FMIN.D (R334). -/
def execFminD (rd rs1 rs2 : FReg) (s : State) : Out :=
  fpMinMax .d false rd rs1 rs2 s

/-- FMAX.D (R335). -/
def execFmaxD (rd rs1 rs2 : FReg) (s : State) : Out :=
  fpMinMax .d true rd rs1 rs2 s

/-- FMADD.S (R336). -/
def execFmaddS (rd rs1 rs2 rs3 : FReg) (rm : RmField) (s : State) : Out :=
  fpFused (.fmaddS rd rs1 rs2 rs3 rm) .s false false rd rs1 rs2 rs3 rm s

/-- FMSUB.S (R337). -/
def execFmsubS (rd rs1 rs2 rs3 : FReg) (rm : RmField) (s : State) : Out :=
  fpFused (.fmsubS rd rs1 rs2 rs3 rm) .s false true rd rs1 rs2 rs3 rm s

/-- FNMSUB.S (R338). -/
def execFnmsubS (rd rs1 rs2 rs3 : FReg) (rm : RmField) (s : State) : Out :=
  fpFused (.fnmsubS rd rs1 rs2 rs3 rm) .s true false rd rs1 rs2 rs3 rm s

/-- FNMADD.S (R339). -/
def execFnmaddS (rd rs1 rs2 rs3 : FReg) (rm : RmField) (s : State) : Out :=
  fpFused (.fnmaddS rd rs1 rs2 rs3 rm) .s true true rd rs1 rs2 rs3 rm s

/-- FMADD.D (R340). -/
def execFmaddD (rd rs1 rs2 rs3 : FReg) (rm : RmField) (s : State) : Out :=
  fpFused (.fmaddD rd rs1 rs2 rs3 rm) .d false false rd rs1 rs2 rs3 rm s

/-- FMSUB.D (R341). -/
def execFmsubD (rd rs1 rs2 rs3 : FReg) (rm : RmField) (s : State) : Out :=
  fpFused (.fmsubD rd rs1 rs2 rs3 rm) .d false true rd rs1 rs2 rs3 rm s

/-- FNMSUB.D (R343). -/
def execFnmsubD (rd rs1 rs2 rs3 : FReg) (rm : RmField) (s : State) : Out :=
  fpFused (.fnmsubD rd rs1 rs2 rs3 rm) .d true false rd rs1 rs2 rs3 rm s

/-- FNMADD.D (R344). -/
def execFnmaddD (rd rs1 rs2 rs3 : FReg) (rm : RmField) (s : State) : Out :=
  fpFused (.fnmaddD rd rs1 rs2 rs3 rm) .d true true rd rs1 rs2 rs3 rm s

end Sys2Proof.Machine
end

