-- ==== Sys2Proof/Machine/FpConvert.lean ====
section
/-! DEFINITION. Conversions between floating point and integer and between the formats (R370 to R389). One meaning per instruction. -/
namespace Sys2Proof.Machine

/-- FCVT.L.S (R371). -/
def execFcvtLS (rd : XReg) (rs1 : FReg) (rm : RmField) (s : State) : Out :=
  rv64Only (.fcvtLS rd rs1 rm) s (fpToInt (.fcvtLS rd rs1 rm) .s .l rd rs1 rm s)

/-- FCVT.LU.S (R372). -/
def execFcvtLuS (rd : XReg) (rs1 : FReg) (rm : RmField) (s : State) : Out :=
  rv64Only (.fcvtLuS rd rs1 rm) s (fpToInt (.fcvtLuS rd rs1 rm) .s .lu rd rs1 rm s)

/-- FCVT.W.S (R373). -/
def execFcvtWS (rd : XReg) (rs1 : FReg) (rm : RmField) (s : State) : Out :=
  fpToInt (.fcvtWS rd rs1 rm) .s .w rd rs1 rm s

/-- FCVT.WU.S (R374). -/
def execFcvtWuS (rd : XReg) (rs1 : FReg) (rm : RmField) (s : State) : Out :=
  fpToInt (.fcvtWuS rd rs1 rm) .s .wu rd rs1 rm s

/-- FCVT.L.D (R375). -/
def execFcvtLD (rd : XReg) (rs1 : FReg) (rm : RmField) (s : State) : Out :=
  rv64Only (.fcvtLD rd rs1 rm) s (fpToInt (.fcvtLD rd rs1 rm) .d .l rd rs1 rm s)

/-- FCVT.LU.D (R376). -/
def execFcvtLuD (rd : XReg) (rs1 : FReg) (rm : RmField) (s : State) : Out :=
  rv64Only (.fcvtLuD rd rs1 rm) s (fpToInt (.fcvtLuD rd rs1 rm) .d .lu rd rs1 rm s)

/-- FCVT.W.D (R377). -/
def execFcvtWD (rd : XReg) (rs1 : FReg) (rm : RmField) (s : State) : Out :=
  fpToInt (.fcvtWD rd rs1 rm) .d .w rd rs1 rm s

/-- FCVT.WU.D (R378). -/
def execFcvtWuD (rd : XReg) (rs1 : FReg) (rm : RmField) (s : State) : Out :=
  fpToInt (.fcvtWuD rd rs1 rm) .d .wu rd rs1 rm s

/-- FCVT.S.L (R379). -/
def execFcvtSL (rd : FReg) (rs1 : XReg) (rm : RmField) (s : State) : Out :=
  rv64Only (.fcvtSL rd rs1 rm) s (fpFromInt (.fcvtSL rd rs1 rm) .s .l rd rs1 rm s)

/-- FCVT.S.LU (R381). -/
def execFcvtSLu (rd : FReg) (rs1 : XReg) (rm : RmField) (s : State) : Out :=
  rv64Only (.fcvtSLu rd rs1 rm) s (fpFromInt (.fcvtSLu rd rs1 rm) .s .lu rd rs1 rm s)

/-- FCVT.S.W (R382). -/
def execFcvtSW (rd : FReg) (rs1 : XReg) (rm : RmField) (s : State) : Out :=
  fpFromInt (.fcvtSW rd rs1 rm) .s .w rd rs1 rm s

/-- FCVT.S.WU (R383). -/
def execFcvtSWu (rd : FReg) (rs1 : XReg) (rm : RmField) (s : State) : Out :=
  fpFromInt (.fcvtSWu rd rs1 rm) .s .wu rd rs1 rm s

/-- FCVT.D.L (R384). -/
def execFcvtDL (rd : FReg) (rs1 : XReg) (rm : RmField) (s : State) : Out :=
  rv64Only (.fcvtDL rd rs1 rm) s (fpFromInt (.fcvtDL rd rs1 rm) .d .l rd rs1 rm s)

/-- FCVT.D.LU (R385). -/
def execFcvtDLu (rd : FReg) (rs1 : XReg) (rm : RmField) (s : State) : Out :=
  rv64Only (.fcvtDLu rd rs1 rm) s (fpFromInt (.fcvtDLu rd rs1 rm) .d .lu rd rs1 rm s)

/-- FCVT.D.W (R386). -/
def execFcvtDW (rd : FReg) (rs1 : XReg) (rm : RmField) (s : State) : Out :=
  fpFromInt (.fcvtDW rd rs1 rm) .d .w rd rs1 rm s

/-- FCVT.D.WU (R387). -/
def execFcvtDWu (rd : FReg) (rs1 : XReg) (rm : RmField) (s : State) : Out :=
  fpFromInt (.fcvtDWu rd rs1 rm) .d .wu rd rs1 rm s

/-- FCVT.S.D (R388). -/
def execFcvtSD (rd rs1 : FReg) (rm : RmField) (s : State) : Out :=
  withMode (.fcvtSD rd rs1 rm) rm s fun m => writeF .s rd (fcvtSFromD m (s.getF .d rs1)) s

/-- FCVT.D.S (R389). The mode is resolved and can trap although the result never depends on it (D13). -/
def execFcvtDS (rd rs1 : FReg) (rm : RmField) (s : State) : Out :=
  withMode (.fcvtDS rd rs1 rm) rm s fun m => writeF .d rd (fcvtDFromS m (s.getF .s rs1)) s

end Sys2Proof.Machine
end

