-- ==== Sys2Proof/Machine/FpMove.lean ====
section
/-! DEFINITION. Sign injection, bit-pattern moves, fsr access and compares (R390 to R411). One meaning per instruction. -/
namespace Sys2Proof.Machine

/-- FSGNJ.S (R391). -/
def execFsgnjS (rd rs1 rs2 : FReg) (s : State) : Out :=
  fpSign .s fsgnj rd rs1 rs2 s

/-- FSGNJN.S (R392). -/
def execFsgnjnS (rd rs1 rs2 : FReg) (s : State) : Out :=
  fpSign .s fsgnjn rd rs1 rs2 s

/-- FSGNJX.S (R393). -/
def execFsgnjxS (rd rs1 rs2 : FReg) (s : State) : Out :=
  fpSign .s fsgnjx rd rs1 rs2 s

/-- FSGNJ.D (R394). -/
def execFsgnjD (rd rs1 rs2 : FReg) (s : State) : Out :=
  fpSign .d fsgnj rd rs1 rs2 s

/-- FSGNJN.D (R409). -/
def execFsgnjnD (rd rs1 rs2 : FReg) (s : State) : Out :=
  fpSign .d fsgnjn rd rs1 rs2 s

/-- FSGNJX.D (R410). -/
def execFsgnjxD (rd rs1 rs2 : FReg) (s : State) : Out :=
  fpSign .d fsgnjx rd rs1 rs2 s

/-- MFTX.S (R395). -/
def execMftxS (rd : XReg) (rs2 : FReg) (s : State) : Out :=
  writeX rd (sext32 (s.getS rs2)) s

/-- MFTX.D (R396). -/
def execMftxD (rd : XReg) (rs2 : FReg) (s : State) : Out :=
  rv64Only (.mftxD rd rs2) s (writeX rd (s.getD rs2) s)

/-- MXTF.S (R397). Bits 63:32 of rs1 are ignored. -/
def execMxtfS (rd : FReg) (rs1 : XReg) (s : State) : Out :=
  .next ((s.setF .s rd (s.getX rs1)).advance)

/-- MXTF.D (R398). -/
def execMxtfD (rd : FReg) (rs1 : XReg) (s : State) : Out :=
  rv64Only (.mxtfD rd rs1) s (.next ((s.setF .d rd (s.getX rs1)).advance))

/-- MFFSR (R399). -/
def execMffsr (rd : XReg) (s : State) : Out :=
  writeX rd (s.fsrValue.setWidth 64) s

/-- MTFSR (R400). rs1 and the old fsr are read before anything is written. -/
def execMtfsr (rd rs1 : XReg) (s : State) : Out :=
  .next (((s.writeFsr ((s.getX rs1).setWidth 32)).setX rd (s.fsrValue.setWidth 64)).advance)

/-- FEQ.S (R402). -/
def execFeqS (rd : XReg) (rs1 rs2 : FReg) (s : State) : Out :=
  fpCompare .s .eq rd rs1 rs2 s

/-- FLT.S (R403). -/
def execFltS (rd : XReg) (rs1 rs2 : FReg) (s : State) : Out :=
  fpCompare .s .lt rd rs1 rs2 s

/-- FLE.S (R404). -/
def execFleS (rd : XReg) (rs1 rs2 : FReg) (s : State) : Out :=
  fpCompare .s .le rd rs1 rs2 s

/-- FEQ.D (R405). -/
def execFeqD (rd : XReg) (rs1 rs2 : FReg) (s : State) : Out :=
  fpCompare .d .eq rd rs1 rs2 s

/-- FLT.D (R406). -/
def execFltD (rd : XReg) (rs1 rs2 : FReg) (s : State) : Out :=
  fpCompare .d .lt rd rs1 rs2 s

/-- FLE.D (R407). -/
def execFleD (rd : XReg) (rs1 rs2 : FReg) (s : State) : Out :=
  fpCompare .d .le rd rs1 rs2 s

end Sys2Proof.Machine
end

