-- ==== Sys2Proof/Machine/IntImm.lean ====
section
/-! DEFINITION. Integer register-immediate instructions (R200 to R217). One meaning per instruction. -/
namespace Sys2Proof.Machine

/-- ADDI (R201). -/
def execAddi (rd rs1 : XReg) (imm : BitVec 12) (s : State) : Out :=
  regImm addOp rd rs1 imm s

/-- SLTI (R202). -/
def execSlti (rd rs1 : XReg) (imm : BitVec 12) (s : State) : Out :=
  compareX sltTest rd rs1 (immWord imm) s

/-- SLTIU (R203). -/
def execSltiu (rd rs1 : XReg) (imm : BitVec 12) (s : State) : Out :=
  compareX ultTest rd rs1 (immWord imm) s

/-- ANDI (R204). -/
def execAndi (rd rs1 : XReg) (imm : BitVec 12) (s : State) : Out :=
  regImm andOp rd rs1 imm s

/-- ORI (R205). -/
def execOri (rd rs1 : XReg) (imm : BitVec 12) (s : State) : Out :=
  regImm orOp rd rs1 imm s

/-- XORI (R206). -/
def execXori (rd rs1 : XReg) (imm : BitVec 12) (s : State) : Out :=
  regImm xorOp rd rs1 imm s

/-- SLLI (R208). -/
def execSlli (rd rs1 : XReg) (shamt : BitVec 6) (s : State) : Out :=
  shamtLegal (.slli rd rs1 shamt) shamt s (regShift sllOp rd rs1 shamt s)

/-- SRLI (R209). -/
def execSrli (rd rs1 : XReg) (shamt : BitVec 6) (s : State) : Out :=
  shamtLegal (.srli rd rs1 shamt) shamt s (regShift srlOp rd rs1 shamt s)

/-- SRAI (R210). -/
def execSrai (rd rs1 : XReg) (shamt : BitVec 6) (s : State) : Out :=
  shamtLegal (.srai rd rs1 shamt) shamt s (regShift sraOp rd rs1 shamt s)

/-- LUI (R211). -/
def execLui (rd : XReg) (imm : BitVec 20) (s : State) : Out :=
  writeX rd (luiWord imm) s

/-- ADDIW (R212). -/
def execAddiw (rd rs1 : XReg) (imm : BitVec 12) (s : State) : Out :=
  rv64Only (.addiw rd rs1 imm) s (regW addOp rd rs1 (immWord imm) s)

/-- SLLIW (R213). -/
def execSlliw (rd rs1 : XReg) (shamtw : BitVec 5) (s : State) : Out :=
  rv64Only (.slliw rd rs1 shamtw) s (regW sllOp rd rs1 (shamtw.setWidth 64) s)

/-- SRLIW (R214). -/
def execSrliw (rd rs1 : XReg) (shamtw : BitVec 5) (s : State) : Out :=
  rv64Only (.srliw rd rs1 shamtw) s (regW srlOp rd rs1 (shamtw.setWidth 64) s)

/-- SRAIW (R215). -/
def execSraiw (rd rs1 : XReg) (shamtw : BitVec 5) (s : State) : Out :=
  rv64Only (.sraiw rd rs1 shamtw) s (regW sraOp rd rs1 (shamtw.setWidth 64) s)

end Sys2Proof.Machine
end

