-- ==== Sys2Proof/Machine/IntReg.lean ====
section
/-! DEFINITION. Integer register-register instructions (R230 to R245, R263). One meaning per instruction. -/
namespace Sys2Proof.Machine

/-- ADD (R231). -/
def execAdd (rd rs1 rs2 : XReg) (s : State) : Out :=
  regReg addOp rd rs1 rs2 s

/-- SUB (R232). -/
def execSub (rd rs1 rs2 : XReg) (s : State) : Out :=
  regReg subOp rd rs1 rs2 s

/-- SLT (R233). -/
def execSlt (rd rs1 rs2 : XReg) (s : State) : Out :=
  compareX sltTest rd rs1 (s.getX rs2) s

/-- SLTU (R234). -/
def execSltu (rd rs1 rs2 : XReg) (s : State) : Out :=
  compareX ultTest rd rs1 (s.getX rs2) s

/-- AND (R235). -/
def execAnd (rd rs1 rs2 : XReg) (s : State) : Out :=
  regReg andOp rd rs1 rs2 s

/-- OR (R236). -/
def execOr (rd rs1 rs2 : XReg) (s : State) : Out :=
  regReg orOp rd rs1 rs2 s

/-- XOR (R237). -/
def execXor (rd rs1 rs2 : XReg) (s : State) : Out :=
  regReg xorOp rd rs1 rs2 s

/-- SLL (R238). -/
def execSll (rd rs1 rs2 : XReg) (s : State) : Out :=
  regReg sllOp rd rs1 rs2 s

/-- SRL (R239). -/
def execSrl (rd rs1 rs2 : XReg) (s : State) : Out :=
  regReg srlOp rd rs1 rs2 s

/-- SRA (R240). -/
def execSra (rd rs1 rs2 : XReg) (s : State) : Out :=
  regReg sraOp rd rs1 rs2 s

/-- ADDW (R241). -/
def execAddw (rd rs1 rs2 : XReg) (s : State) : Out :=
  rv64Only (.addw rd rs1 rs2) s (regW addOp rd rs1 (s.getX rs2) s)

/-- SUBW (R242). -/
def execSubw (rd rs1 rs2 : XReg) (s : State) : Out :=
  rv64Only (.subw rd rs1 rs2) s (regW subOp rd rs1 (s.getX rs2) s)

/-- SLLW (R243). -/
def execSllw (rd rs1 rs2 : XReg) (s : State) : Out :=
  rv64Only (.sllw rd rs1 rs2) s (regW sllOp rd rs1 (s.getX rs2) s)

/-- SRLW (R244). -/
def execSrlw (rd rs1 rs2 : XReg) (s : State) : Out :=
  rv64Only (.srlw rd rs1 rs2) s (regW srlOp rd rs1 (s.getX rs2) s)

/-- SRAW (R245). -/
def execSraw (rd rs1 rs2 : XReg) (s : State) : Out :=
  rv64Only (.sraw rd rs1 rs2) s (regW sraOp rd rs1 (s.getX rs2) s)

end Sys2Proof.Machine
end

