-- ==== Sys2Proof/Machine/Load.lean ====
section
/-! DEFINITION. Loads to fixed-point and floating-point registers (R140 to R149, R154, R155, R158 to R160). One meaning per instruction. -/
namespace Sys2Proof.Machine

/-- LB (R143). -/
def execLb (rd rs1 : XReg) (imm : BitVec 12) (s : State) : Out :=
  loadX 1 sext8 rd rs1 imm s

/-- LH (R144). -/
def execLh (rd rs1 : XReg) (imm : BitVec 12) (s : State) : Out :=
  loadX 2 sext16 rd rs1 imm s

/-- LW (R145). -/
def execLw (rd rs1 : XReg) (imm : BitVec 12) (s : State) : Out :=
  loadX 4 sextLow32 rd rs1 imm s

/-- LD (R146). -/
def execLd (rd rs1 : XReg) (imm : BitVec 12) (s : State) : Out :=
  rv64Only (.ld rd rs1 imm) s (loadX 8 zextLoad rd rs1 imm s)

/-- LBU (R147). -/
def execLbu (rd rs1 : XReg) (imm : BitVec 12) (s : State) : Out :=
  loadX 1 zextLoad rd rs1 imm s

/-- LHU (R148). -/
def execLhu (rd rs1 : XReg) (imm : BitVec 12) (s : State) : Out :=
  loadX 2 zextLoad rd rs1 imm s

/-- LWU (R149). -/
def execLwu (rd rs1 : XReg) (imm : BitVec 12) (s : State) : Out :=
  rv64Only (.lwu rd rs1 imm) s (loadX 4 zextLoad rd rs1 imm s)

/-- FLW (R154). -/
def execFlw (rd : FReg) (rs1 : XReg) (imm : BitVec 12) (s : State) : Out :=
  loadF .s 4 rd rs1 imm s

/-- FLD (R155). -/
def execFld (rd : FReg) (rs1 : XReg) (imm : BitVec 12) (s : State) : Out :=
  loadF .d 8 rd rs1 imm s

end Sys2Proof.Machine
end

