-- ==== Sys2Proof/Machine/MulDiv.lean ====
section
/-! DEFINITION. Multiply and divide (R246 to R260, R264). One meaning per instruction. -/
namespace Sys2Proof.Machine

/-- MUL (R247). -/
def execMul (rd rs1 rs2 : XReg) (s : State) : Out :=
  regReg mulOp rd rs1 rs2 s

/-- MULH (R248). -/
def execMulh (rd rs1 rs2 : XReg) (s : State) : Out :=
  regReg mulhOp rd rs1 rs2 s

/-- MULHU (R249). -/
def execMulhu (rd rs1 rs2 : XReg) (s : State) : Out :=
  regReg mulhuOp rd rs1 rs2 s

/-- MULHSU (R250). -/
def execMulhsu (rd rs1 rs2 : XReg) (s : State) : Out :=
  regReg mulhsuOp rd rs1 rs2 s

/-- MULW (R251). -/
def execMulw (rd rs1 rs2 : XReg) (s : State) : Out :=
  rv64Only (.mulw rd rs1 rs2) s (regW mulOp rd rs1 (s.getX rs2) s)

/-- DIV (R253). -/
def execDiv (rd rs1 rs2 : XReg) (s : State) : Out :=
  regReg divOp rd rs1 rs2 s

/-- DIVU (R254). -/
def execDivu (rd rs1 rs2 : XReg) (s : State) : Out :=
  regReg divuOp rd rs1 rs2 s

/-- REM (R255). -/
def execRem (rd rs1 rs2 : XReg) (s : State) : Out :=
  regReg remOp rd rs1 rs2 s

/-- REMU (R256). -/
def execRemu (rd rs1 rs2 : XReg) (s : State) : Out :=
  regReg remuOp rd rs1 rs2 s

/-- DIVW (R257). -/
def execDivw (rd rs1 rs2 : XReg) (s : State) : Out :=
  rv64Only (.divw rd rs1 rs2) s (regW divOp rd rs1 (s.getX rs2) s)

/-- DIVUW (R258). -/
def execDivuw (rd rs1 rs2 : XReg) (s : State) : Out :=
  rv64Only (.divuw rd rs1 rs2) s (regW divuOp rd rs1 (s.getX rs2) s)

/-- REMW (R259). -/
def execRemw (rd rs1 rs2 : XReg) (s : State) : Out :=
  rv64Only (.remw rd rs1 rs2) s (regW remOp rd rs1 (s.getX rs2) s)

/-- REMUW (R260). -/
def execRemuw (rd rs1 rs2 : XReg) (s : State) : Out :=
  rv64Only (.remuw rd rs1 rs2) s (regW remuOp rd rs1 (s.getX rs2) s)

end Sys2Proof.Machine
end

