-- ==== Sys2Proof/Machine/Store.lean ====
section
/-! DEFINITION. Stores from fixed-point and floating-point registers (R142, R150 to R153, R156, R157). One meaning per instruction. -/
namespace Sys2Proof.Machine

/-- SB (R150). -/
def execSb (rs1 rs2 : XReg) (imm : BitVec 12) (s : State) : Out :=
  storeAt 1 (s.getX rs2) rs1 imm s

/-- SH (R151). -/
def execSh (rs1 rs2 : XReg) (imm : BitVec 12) (s : State) : Out :=
  storeAt 2 (s.getX rs2) rs1 imm s

/-- SW (R152). -/
def execSw (rs1 rs2 : XReg) (imm : BitVec 12) (s : State) : Out :=
  storeAt 4 (s.getX rs2) rs1 imm s

/-- SD (R153). -/
def execSd (rs1 rs2 : XReg) (imm : BitVec 12) (s : State) : Out :=
  rv64Only (.sd rs1 rs2 imm) s (storeAt 8 (s.getX rs2) rs1 imm s)

/-- FSW (R156). -/
def execFsw (rs1 : XReg) (rs2 : FReg) (imm : BitVec 12) (s : State) : Out :=
  storeAt 4 (s.getF .s rs2) rs1 imm s

/-- FSD (R157). -/
def execFsd (rs1 : XReg) (rs2 : FReg) (imm : BitVec 12) (s : State) : Out :=
  storeAt 8 (s.getF .d rs2) rs1 imm s

end Sys2Proof.Machine
end

