-- ==== Sys2Proof/Machine/System.lean ====
section
/-! DEFINITION. SYSCALL, BREAK and the counter reads (R440 to R448). One meaning per instruction. -/
namespace Sys2Proof.Machine

/-- SYSCALL (R441). -/
def execSyscall (s : State) : Out :=
  raise .syscall s

/-- BREAK (R442). -/
def execBrk (s : State) : Out :=
  raise .breakpoint s

/-- RDCYCLE (R443). -/
def execRdcycle (rd : XReg) (s : State) : Out :=
  writeX rd (BitVec.ofNat 64 s.cycle) s

/-- RDTIME (R444). -/
def execRdtime (rd : XReg) (s : State) : Out :=
  writeX rd (BitVec.ofNat 64 s.time) s

/-- RDINSTRET (R445). The count is of the instructions retired before this one (D23). -/
def execRdinstret (rd : XReg) (s : State) : Out :=
  writeX rd (BitVec.ofNat 64 s.instret) s

end Sys2Proof.Machine
end

