-- ==== Sys2Proof/Machine/Step.lean ====
section
/-! DEFINITION. One step of the hardware thread (R14): fetch, decode, execute, retire. -/
namespace Sys2Proof.Machine

/-- One step. The three outcomes are a next state, a trap that leaves the thread as it was before the step (R469),
and a refusal. -/
def step (s : State) : Host.Outcome State Fault Refusal :=
  withFetch s fun w =>
    match decodeWord w with
    | .ok i => retired i s (exec i s)
    | .error _ => raiseIllegalWord w s

/-- The state with a table word where the next step fetches (the host's question). -/
def State.withFetchWord (s : State) (nbits w : Nat) : State := s.plantWord (tableWord nbits w)

end Sys2Proof.Machine
end

