-- ==== Sys2Proof/Machine/Env.lean ====
section
/-! DEFINITION. What follows a trap: the environment's part (R469, D4). The document gives no trap entry and no
return; the environment maps the outcome and the state before the step either to a stop or to a state to resume
from. `step` is the machine under the recommended environment, which stops at every exception. -/
namespace Sys2Proof.Machine

/-- `ENV_TRAP`: from the exception and the state before the step to `Stop` (none) or a state to resume from (R469). -/
abbrev EnvTrap := Fault → State → Option State

/-- The recommended default: `Stop` for every exception (R469). -/
def EnvTrap.stop : EnvTrap := fun _ _ => none

/-- The state that stepping resumes from, given the state `s` before the trap and the environment's answer `t`: the
answer, but that the parameters are constant for a run (R5, R24), that no counter falls (R448, R476), and that the
draw counter moves on, so that a race left open before the trap is open again after it. -/
def State.resume (s t : State) : State :=
  { t with
    params := s.params
    cycle := max s.cycle t.cycle
    time := max s.time t.time
    instret := max s.instret t.instret
    draws := s.draws + 1 }

/-- One step under an environment: a trap that the environment answers resumes from its answer, with nothing
retired (R469, D4). -/
def stepUnder (env : EnvTrap) (s : State) : Out :=
  match step s with
  | .next t => .next t
  | .refused r => .refused r
  | .fault e =>
    match env e s with
    | some t => .next (s.resume t)
    | none => .fault e

end Sys2Proof.Machine
end

