-- ==== Sys2Proof/Safety.lean ====
section
/-! DEFINITION. The vocabulary of the claims: signed and unsigned readings of registers, the value that the bytes of
memory hold, what an instruction leaves as it was, and the invariant of the machine. Nothing here is used by the
machine itself. -/
namespace Sys2Proof.Machine

/-! ### Readings -/

/-- `unsigned(x[r])` (R7). -/
def State.ux (s : State) (r : XReg) : Nat := (s.getX r).toNat

/-- `signed(x[r])` (R7). -/
def State.sx (s : State) (r : XReg) : Int :=
  match s.xlen with
  | .rv32 => ((s.getX r).setWidth 32).toInt
  | .rv64 => (s.getX r).toInt

/-- `signed(x[r][31:0])` (R217). -/
def State.sxLow (s : State) (r : XReg) : Int := ((s.getX r).setWidth 32).toInt

/-- `unsigned(x[r][31:0])` (R217). -/
def State.uxLow (s : State) (r : XReg) : Nat := s.ux r % 2 ^ 32

/-- `2^XPRLEN`. -/
def State.modulus (s : State) : Nat := 2 ^ s.xlen.bits

/-- The weight, as a power of 256, of the byte at offset `i` of an `n`-byte access (R52, R53). -/
def byteWeight (e : Endian) (n i : Nat) : Nat :=
  match e with
  | .little => 256 ^ i
  | .big    => 256 ^ (n - 1 - i)

/-- The number that the `n` bytes of an access hold (R52). -/
def State.memNat (s : State) (addr n : Nat) : Nat :=
  ((List.range n).map fun i =>
    (s.readByte ((addr + i) % s.modulus)).toNat * byteWeight s.endian n i).sum

/-- The bytes of an access hold a number (R53). -/
def State.memHolds (s : State) (addr n v : Nat) : Prop :=
  ∀ i, i < n → (s.readByte ((addr + i) % s.modulus)).toNat = v / byteWeight s.endian n i % 256

/-- `MEM_VALID` admits every byte of an access (R62). -/
def State.admits (s : State) (k : AccessKind) (addr : Word) (n : Nat) : Bool :=
  (s.addrs addr n).all fun a => memValid s.params k a

/-- A flag is set in a set of flags. -/
def flagIn (e f : FlagSet) : Bool := f &&& e == e

/-- The rational that a finite value denotes (R310). -/
def ratOf (neg : Bool) (m : Nat) (e : Int) : Rat := (signedMag neg m : Rat) * (2 : Rat) ^ e

/-- A pattern has no bits above its format (R310). -/
def fitsFormat (F : Fmt) (b : FBits) : Prop := b.toNat < 2 ^ (signPos F + 1)

/-- A pattern denotes a rational: it is finite and its value is that number (R310). -/
def denotes (F : Fmt) (b : FBits) (r : Rat) : Prop :=
  fitsFormat F b ∧ ∃ neg m e, unpack F b = .fin neg m e ∧ ratOf neg m e = r

/-- A pattern has a smaller value than another: −∞ is below every finite number and below +∞, every finite number is
below +∞, and finite numbers are ordered as the rationals they denote (R327, R401). -/
def ValueBelow (F : Fmt) (a b : FBits) : Prop :=
  (unpack F a = .inf true ∧ (unpack F b = .inf false ∨ ∃ y, denotes F b y)) ∨
    ((∃ x, denotes F a x) ∧ unpack F b = .inf false) ∨ ∃ x y, denotes F a x ∧ denotes F b y ∧ x < y

/-- Two patterns have one value: they are one infinity, or denote one rational (R327, R401). -/
def ValueEqual (F : Fmt) (a b : FBits) : Prop :=
  (∃ n, unpack F a = .inf n ∧ unpack F b = .inf n) ∨ ∃ x, denotes F a x ∧ denotes F b x

/-! ### Classes of instructions -/

/-- J, JAL, the three JALR and the branches (R27). -/
def transfersControl : Instr → Bool
  | .j _ | .jal _ | .jalrC _ _ _ | .jalrR _ _ _ | .jalrJ _ _ _ | .beq _ _ _ | .bne _ _ _ | .blt _ _ _
  | .bge _ _ _ | .bltu _ _ _ | .bgeu _ _ _ => true
  | .lb _ _ _ | .lh _ _ _ | .lw _ _ _ | .ld _ _ _ | .lbu _ _ _ | .lhu _ _ _ | .lwu _ _ _ | .sb _ _ _
  | .sh _ _ _ | .sw _ _ _ | .sd _ _ _ | .flw _ _ _ | .fld _ _ _ | .fsw _ _ _ | .fsd _ _ _ | .amoaddW _ _ _
  | .amoswapW _ _ _ | .amoandW _ _ _ | .amoorW _ _ _ | .amominW _ _ _ | .amomaxW _ _ _ | .amominuW _ _ _
  | .amomaxuW _ _ _ | .amoaddD _ _ _ | .amoswapD _ _ _ | .amoandD _ _ _ | .amoorD _ _ _ | .amominD _ _ _
  | .amomaxD _ _ _ | .amominuD _ _ _ | .amomaxuD _ _ _ | .addi _ _ _ | .slti _ _ _ | .sltiu _ _ _ | .andi _ _ _
  | .ori _ _ _ | .xori _ _ _ | .slli _ _ _ | .srli _ _ _ | .srai _ _ _ | .lui _ _ | .addiw _ _ _ | .slliw _ _ _
  | .srliw _ _ _ | .sraiw _ _ _ | .add _ _ _ | .sub _ _ _ | .slt _ _ _ | .sltu _ _ _ | .and _ _ _ | .or _ _ _
  | .xor _ _ _ | .sll _ _ _ | .srl _ _ _ | .sra _ _ _ | .addw _ _ _ | .subw _ _ _ | .sllw _ _ _ | .srlw _ _ _
  | .sraw _ _ _ | .mul _ _ _ | .mulh _ _ _ | .mulhu _ _ _ | .mulhsu _ _ _ | .mulw _ _ _ | .div _ _ _
  | .divu _ _ _ | .rem _ _ _ | .remu _ _ _ | .divw _ _ _ | .divuw _ _ _ | .remw _ _ _ | .remuw _ _ _ | .rdnpc _
  | .faddS _ _ _ _ | .fsubS _ _ _ _ | .fmulS _ _ _ _ | .fdivS _ _ _ _ | .fsqrtS _ _ _ | .fminS _ _ _
  | .fmaxS _ _ _ | .faddD _ _ _ _ | .fsubD _ _ _ _ | .fmulD _ _ _ _ | .fdivD _ _ _ _ | .fsqrtD _ _ _
  | .fminD _ _ _ | .fmaxD _ _ _ | .fmaddS _ _ _ _ _ | .fmsubS _ _ _ _ _ | .fnmsubS _ _ _ _ _
  | .fnmaddS _ _ _ _ _ | .fmaddD _ _ _ _ _ | .fmsubD _ _ _ _ _ | .fnmsubD _ _ _ _ _ | .fnmaddD _ _ _ _ _
  | .fcvtLS _ _ _ | .fcvtLuS _ _ _ | .fcvtWS _ _ _ | .fcvtWuS _ _ _ | .fcvtLD _ _ _ | .fcvtLuD _ _ _
  | .fcvtWD _ _ _ | .fcvtWuD _ _ _ | .fcvtSL _ _ _ | .fcvtSLu _ _ _ | .fcvtSW _ _ _ | .fcvtSWu _ _ _
  | .fcvtDL _ _ _ | .fcvtDLu _ _ _ | .fcvtDW _ _ _ | .fcvtDWu _ _ _ | .fcvtSD _ _ _ | .fcvtDS _ _ _
  | .fsgnjS _ _ _ | .fsgnjnS _ _ _ | .fsgnjxS _ _ _ | .fsgnjD _ _ _ | .fsgnjnD _ _ _ | .fsgnjxD _ _ _
  | .mftxS _ _ | .mftxD _ _ | .mxtfS _ _ | .mxtfD _ _ | .mffsr _ | .mtfsr _ _ | .feqS _ _ _ | .fltS _ _ _
  | .fleS _ _ _ | .feqD _ _ _ | .fltD _ _ _ | .fleD _ _ _ | .fence _ _ _ | .fenceI _ _ _ | .syscall | .brk
  | .rdcycle _ | .rdtime _ | .rdinstret _ => false

/-- The stores and the AMOs (R33). -/
def writesMemory : Instr → Bool
  | .sb _ _ _ | .sh _ _ _ | .sw _ _ _ | .sd _ _ _ | .fsw _ _ _ | .fsd _ _ _ | .amoaddW _ _ _ | .amoswapW _ _ _
  | .amoandW _ _ _ | .amoorW _ _ _ | .amominW _ _ _ | .amomaxW _ _ _ | .amominuW _ _ _ | .amomaxuW _ _ _
  | .amoaddD _ _ _ | .amoswapD _ _ _ | .amoandD _ _ _ | .amoorD _ _ _ | .amominD _ _ _ | .amomaxD _ _ _
  | .amominuD _ _ _ | .amomaxuD _ _ _ => true
  | .lb _ _ _ | .lh _ _ _ | .lw _ _ _ | .ld _ _ _ | .lbu _ _ _ | .lhu _ _ _ | .lwu _ _ _ | .flw _ _ _
  | .fld _ _ _ | .addi _ _ _ | .slti _ _ _ | .sltiu _ _ _ | .andi _ _ _ | .ori _ _ _ | .xori _ _ _
  | .slli _ _ _ | .srli _ _ _ | .srai _ _ _ | .lui _ _ | .addiw _ _ _ | .slliw _ _ _ | .srliw _ _ _
  | .sraiw _ _ _ | .add _ _ _ | .sub _ _ _ | .slt _ _ _ | .sltu _ _ _ | .and _ _ _ | .or _ _ _ | .xor _ _ _
  | .sll _ _ _ | .srl _ _ _ | .sra _ _ _ | .addw _ _ _ | .subw _ _ _ | .sllw _ _ _ | .srlw _ _ _ | .sraw _ _ _
  | .mul _ _ _ | .mulh _ _ _ | .mulhu _ _ _ | .mulhsu _ _ _ | .mulw _ _ _ | .div _ _ _ | .divu _ _ _
  | .rem _ _ _ | .remu _ _ _ | .divw _ _ _ | .divuw _ _ _ | .remw _ _ _ | .remuw _ _ _ | .j _ | .jal _
  | .jalrC _ _ _ | .jalrR _ _ _ | .jalrJ _ _ _ | .rdnpc _ | .beq _ _ _ | .bne _ _ _ | .blt _ _ _ | .bge _ _ _
  | .bltu _ _ _ | .bgeu _ _ _ | .faddS _ _ _ _ | .fsubS _ _ _ _ | .fmulS _ _ _ _ | .fdivS _ _ _ _
  | .fsqrtS _ _ _ | .fminS _ _ _ | .fmaxS _ _ _ | .faddD _ _ _ _ | .fsubD _ _ _ _ | .fmulD _ _ _ _
  | .fdivD _ _ _ _ | .fsqrtD _ _ _ | .fminD _ _ _ | .fmaxD _ _ _ | .fmaddS _ _ _ _ _ | .fmsubS _ _ _ _ _
  | .fnmsubS _ _ _ _ _ | .fnmaddS _ _ _ _ _ | .fmaddD _ _ _ _ _ | .fmsubD _ _ _ _ _ | .fnmsubD _ _ _ _ _
  | .fnmaddD _ _ _ _ _ | .fcvtLS _ _ _ | .fcvtLuS _ _ _ | .fcvtWS _ _ _ | .fcvtWuS _ _ _ | .fcvtLD _ _ _
  | .fcvtLuD _ _ _ | .fcvtWD _ _ _ | .fcvtWuD _ _ _ | .fcvtSL _ _ _ | .fcvtSLu _ _ _ | .fcvtSW _ _ _
  | .fcvtSWu _ _ _ | .fcvtDL _ _ _ | .fcvtDLu _ _ _ | .fcvtDW _ _ _ | .fcvtDWu _ _ _ | .fcvtSD _ _ _
  | .fcvtDS _ _ _ | .fsgnjS _ _ _ | .fsgnjnS _ _ _ | .fsgnjxS _ _ _ | .fsgnjD _ _ _ | .fsgnjnD _ _ _
  | .fsgnjxD _ _ _ | .mftxS _ _ | .mftxD _ _ | .mxtfS _ _ | .mxtfD _ _ | .mffsr _ | .mtfsr _ _ | .feqS _ _ _
  | .fltS _ _ _ | .fleS _ _ _ | .feqD _ _ _ | .fltD _ _ _ | .fleD _ _ _ | .fence _ _ _ | .fenceI _ _ _
  | .syscall | .brk | .rdcycle _ | .rdtime _ | .rdinstret _ => false

/-! ### Rounding, in rationals -/

/-- `k` is the non-negative `x` rounded to an integer in a mode, as the magnitude of a number with the given sign: a
neighbour of `x`, on the side or at the distance that the mode asks for (R319). -/
def IsRounding (m : RMode) (neg : Bool) (x : Rat) (k : Nat) : Prop :=
  |(k : Rat) - x| < 1 ∧
    match m with
    | .rne => |(k : Rat) - x| ≤ 1 / 2 ∧ (|(k : Rat) - x| = 1 / 2 → k % 2 = 0)
    | .rtz => (k : Rat) ≤ x
    | .rdn => if neg then x ≤ k else (k : Rat) ≤ x
    | .rup => if neg then (k : Rat) ≤ x else x ≤ k
    | .rmm => |(k : Rat) - x| ≤ 1 / 2 ∧ (|(k : Rat) - x| = 1 / 2 → x ≤ k)

/-- The number with a sign and a magnitude. -/
def signedRat (neg : Bool) (x : Rat) : Rat := if neg then -x else x

/-- A result is the non-zero rational `r`, rounded once to the format: `roundTo` of its sign and of its magnitude, in
whatever way the magnitude is written as `num / den × 2^e` (R317, R320). -/
def RoundedOnce (F : Fmt) (m : RMode) (r : Rat) (res : FBits × FlagSet) : Prop :=
  ∀ (num den : Nat) (e : Int), 0 < den → (num : Rat) / den * (2 : Rat) ^ e = |r| →
    res = roundTo F m (decide (r < 0)) num den e

/-- `k` units are the square root of the positive `x`, rounded to a whole number of units in a mode: said of the
squares, because the root need not be rational. A root is never half-way between two numbers of the format, so ties
do not arise (R319, R320). -/
def IsRootRounding (m : RMode) (x unit : Rat) (k : Nat) : Prop :=
  match m with
  | .rne | .rmm => 1 ≤ k ∧ (((k : Rat) - 1 / 2) * unit) ^ 2 < x ∧ x < (((k : Rat) + 1 / 2) * unit) ^ 2
  | .rtz | .rdn => ((k : Rat) * unit) ^ 2 ≤ x ∧ x < (((k : Rat) + 1) * unit) ^ 2
  | .rup => 1 ≤ k ∧ (((k : Rat) - 1) * unit) ^ 2 < x ∧ x ≤ ((k : Rat) * unit) ^ 2

/-- The sign of a sum that is exactly zero: that of the addends where they agree, else − in RDN and + in every other
mode (R321). -/
def exactZeroSign (m : RMode) (p q : Bool) : Bool := if p = q then p else decide (m = .rdn)

/-! ### What is left as it was -/

/-- What the meaning of no instruction touches: the parameters, the counters and the draw counter. -/
structure KeepsRest (s t : State) : Prop where
  params : t.params = s.params
  cycle : t.cycle = s.cycle
  time : t.time = s.time
  instret : t.instret = s.instret
  draws : t.draws = s.draws

/-- Every x register reads as before. -/
def KeepsX (s t : State) : Prop := ∀ r, t.getX r = s.getX r

/-- Every x register but one reads as before, and x0 reads zero. -/
def KeepsXBut (rd : XReg) (s t : State) : Prop := t.getX 0#5 = 0#64 ∧ ∀ r, r ≠ rd → t.getX r = s.getX r

/-- Every f register holds what it held. -/
def KeepsF (s t : State) : Prop := ∀ r, t.cellF r = s.cellF r

/-- Every f register but one holds what it held. -/
def KeepsFBut (rd : FReg) (s t : State) : Prop := ∀ r, r ≠ rd → t.cellF r = s.cellF r

/-- fsr reads as before. -/
def KeepsFsr (s t : State) : Prop := t.fsrValue = s.fsrValue

/-- Every byte of memory reads as before. -/
def KeepsMem (s t : State) : Prop := ∀ a, t.readByte a = s.readByte a

/-- Every byte of memory outside an access reads as before. -/
def KeepsMemBut (addrs : List Nat) (s t : State) : Prop := ∀ a, a ∉ addrs → t.readByte a = s.readByte a

/-- Fetch sees what it saw: no earlier parcel value is added or dropped. -/
def KeepsFetch (s t : State) : Prop := t.stale = s.stale

/-- The next instruction is the one that follows: `pc + 4` modulo 2^XPRLEN (R27). -/
def InSequence (s t : State) : Prop := t.pcVal.toNat = (s.pcVal.toNat + 4) % s.modulus

/-- What the bytes of an access leave for fetch to see: no recorded parcel is dropped; every parcel in which a byte of
the access lies stands recorded as it was before; and whatever else is recorded is a value of such a parcel, each of
its two bytes being what memory held there before or holds there after (R58, R68, R504). -/
structure RecordsParcels (addrs : List Nat) (s t : State) : Prop where
  kept : ∀ o ∈ s.stale, o ∈ t.stale
  added : ∀ a ∈ addrs, currentParcel s.mem (a - a % 2) ∈ t.stale
  only : ∀ o ∈ t.stale, o ∈ s.stale ∨
    (∃ a ∈ addrs, o.addr = a - a % 2) ∧
      (o.b0 = s.readByte o.addr ∨ o.b0 = t.readByte o.addr) ∧
      (o.b1 = s.readByte (o.addr + 1) ∨ o.b1 = t.readByte (o.addr + 1))

/-- The frame of an instruction that writes one x register and nothing else. -/
structure XFrame (rd : XReg) (s t : State) : Prop where
  x : KeepsXBut rd s t
  f : KeepsF s t
  fsr : KeepsFsr s t
  mem : KeepsMem s t
  fetch : KeepsFetch s t
  rest : KeepsRest s t
  pc : InSequence s t

/-- The frame of an instruction that writes one x register and accrues flags. -/
structure XFlagFrame (rd : XReg) (s t : State) : Prop where
  x : KeepsXBut rd s t
  f : KeepsF s t
  mode : t.fsrRM = s.fsrRM
  mem : KeepsMem s t
  fetch : KeepsFetch s t
  rest : KeepsRest s t
  pc : InSequence s t

/-- The frame of an instruction that writes one f register and accrues flags. -/
structure FFrame (rd : FReg) (s t : State) : Prop where
  x : KeepsX s t
  f : KeepsFBut rd s t
  mode : t.fsrRM = s.fsrRM
  mem : KeepsMem s t
  fetch : KeepsFetch s t
  rest : KeepsRest s t
  pc : InSequence s t

/-- The frame of a store to the bytes of an access. -/
structure StoreFrame (addrs : List Nat) (s t : State) : Prop where
  x : KeepsX s t
  f : KeepsF s t
  fsr : KeepsFsr s t
  mem : KeepsMemBut addrs s t
  fetch : RecordsParcels addrs s t
  rest : KeepsRest s t
  pc : InSequence s t

/-- The frame of an AMO on the bytes of an access. -/
structure AmoFrame (rd : XReg) (addrs : List Nat) (s t : State) : Prop where
  x : KeepsXBut rd s t
  f : KeepsF s t
  fsr : KeepsFsr s t
  mem : KeepsMemBut addrs s t
  fetch : RecordsParcels addrs s t
  rest : KeepsRest s t
  pc : InSequence s t

/-- The frame of a transfer of control that writes no register. -/
structure JumpFrame (s t : State) : Prop where
  x : KeepsX s t
  f : KeepsF s t
  fsr : KeepsFsr s t
  mem : KeepsMem s t
  fetch : KeepsFetch s t
  rest : KeepsRest s t

/-- The frame of a transfer of control that writes a link register. -/
structure LinkFrame (rd : XReg) (s t : State) : Prop where
  x : KeepsXBut rd s t
  f : KeepsF s t
  fsr : KeepsFsr s t
  mem : KeepsMem s t
  fetch : KeepsFetch s t
  rest : KeepsRest s t

/-! ### Completion -/

/-- The instruction answers a next state that has the frame of an x-register write, and in which rd reads the number
`v` modulo 2^XPRLEN (zero when rd is x0). -/
def CompletesX (i : Instr) (s : State) (rd : XReg) (v : Int) : Prop :=
  ∃ t, exec i s = .next t ∧ XFrame rd s t ∧ (t.ux rd : Int) = if rd = 0#5 then 0 else v % (s.modulus : Int)

/-- The instruction answers a next state that has the frame of a jump, at the address `target` modulo 2^XPRLEN. -/
def CompletesJump (i : Instr) (s : State) (target : Int) : Prop :=
  ∃ t, exec i s = .next t ∧ JumpFrame s t ∧ (t.pcVal.toNat : Int) = target % (s.modulus : Int)

/-- The instruction answers a next state that has the frame of a linking jump to `target`, with the address of the
following instruction in rd. -/
def CompletesLink (i : Instr) (s : State) (rd : XReg) (target : Int) : Prop :=
  ∃ t, exec i s = .next t ∧ LinkFrame rd s t ∧ (t.pcVal.toNat : Int) = target % (s.modulus : Int) ∧
    t.ux rd = if rd = 0#5 then 0 else (s.pcVal.toNat + 4) % s.modulus

/-- The instruction answers a next state that has the frame of an f-register write, in which rd holds the result's
pattern in its format and the result's flags have accrued. -/
def CompletesF (i : Instr) (s : State) (F : Fmt) (rd : FReg) (r : FBits × FlagSet) : Prop :=
  ∃ t, exec i s = .next t ∧ FFrame rd s t ∧ t.cellF rd = cellOf F r.1 ∧ t.fsrFlags = s.fsrFlags ||| r.2

/-- The instruction answers a next state that has the frame of an x-register write with flags. -/
def CompletesXFlags (i : Instr) (s : State) (rd : XReg) (v : Word) (e : FlagSet) : Prop :=
  ∃ t, exec i s = .next t ∧ XFlagFrame rd s t ∧ t.getX rd = (if rd = 0#5 then 0#64 else s.xlen.wrap v) ∧
    t.fsrFlags = s.fsrFlags ||| e

/-- The instruction answers a next state that has the frame of a store, in which the bytes of the access hold the
number `v`. -/
def CompletesStore (i : Instr) (s : State) (addr : Word) (n v : Nat) : Prop :=
  ∃ t, exec i s = .next t ∧ StoreFrame (s.addrs addr n) s t ∧ t.memHolds addr.toNat n v

/-- The instruction answers a next state that has the frame of an AMO, in which rd reads the number `old` and the
bytes of the access hold the number `new`. -/
def CompletesAmo (i : Instr) (s : State) (rd : XReg) (addr : Word) (n : Nat) (old : Int) (new : Nat) : Prop :=
  ∃ t, exec i s = .next t ∧ AmoFrame rd (s.addrs addr n) s t ∧
    (t.ux rd : Int) = (if rd = 0#5 then 0 else old % (s.modulus : Int)) ∧ t.memHolds addr.toNat n new

/-- The instruction raises `IllegalInstruction` with its pc and its word (R461). -/
def TrapsIllegal (i : Instr) (s : State) : Prop :=
  exec i s = .fault (.illegalInstruction s.pcVal (encode i))

/-- The instruction faults at a byte that `MEM_VALID` does not admit for a kind of access (R62). -/
def TrapsAccess (i : Instr) (s : State) (a : Nat) (k : AccessKind) : Prop :=
  exec i s = .fault (.accessFault s.pcVal a k)

/-- The next step fetches this word: the pc is a multiple of 4, the four bytes are admitted for fetch, and they hold
the word as fetch sees them (R14, R54, R55). -/
def Fetches (s : State) (w : InstWord) : Prop :=
  s.pcVal.toNat % 4 = 0 ∧ s.admits .fetch s.pcVal 4 = true ∧ s.fetchWord s.pcVal.toNat = w

/-! ### The invariant -/

/-- The machine's data is in its canonical form: memory is sorted and lists only addresses of the address space; x0's
slot is zero and every x register and the pc are `XPRLEN`-bit values; fsr[31:8] is zero; every earlier parcel value
is of an even address of the address space (R21, R22, R26, R30, R50, R54). -/
structure Inv (s : State) : Prop where
  memWf : Memory.wf s.mem
  memRange : ∀ c ∈ s.mem, c.1 < s.modulus
  xZero : s.x[0] = 0#64
  xRange : ∀ (r : Nat) (h : r < 32), s.x[r].toNat < s.modulus
  pcRange : s.pc.toNat < s.modulus
  fsrUpper : s.fsr.toNat < 2 ^ 8
  staleRange : ∀ o ∈ s.stale, o.addr % 2 = 0 ∧ o.addr < s.modulus

end Sys2Proof.Machine
end

