-- ==== Sys2Proof/Table.lean ====
section
/-! DEFINITION. The opcode table as the spec prints it: for each row the bits that are fixed and their values (R108).
The decoder and the encoder are written from the formats and the map; the table stands beside them so that claims can
hold the two against each other. -/
namespace Sys2Proof

/-- The `mask` of an instruction's row: the bits that the row fixes (R108). -/
def Instr.tableMask : Instr → InstWord
  | .lb _ _ _ | .lh _ _ _ | .lw _ _ _ | .ld _ _ _ | .lbu _ _ _ | .lhu _ _ _ | .lwu _ _ _ | .sb _ _ _
  | .sh _ _ _ | .sw _ _ _ | .sd _ _ _ | .flw _ _ _ | .fld _ _ _ | .fsw _ _ _ | .fsd _ _ _ | .addi _ _ _
  | .slti _ _ _ | .sltiu _ _ _ | .andi _ _ _ | .ori _ _ _ | .xori _ _ _ | .addiw _ _ _ | .jalrC _ _ _
  | .jalrR _ _ _ | .jalrJ _ _ _ | .beq _ _ _ | .bne _ _ _ | .blt _ _ _ | .bge _ _ _ | .bltu _ _ _ | .bgeu _ _ _
  | .fence _ _ _ | .fenceI _ _ _ => 0x000003FF#32
  | .amoaddW _ _ _ | .amoswapW _ _ _ | .amoandW _ _ _ | .amoorW _ _ _ | .amominW _ _ _ | .amomaxW _ _ _
  | .amominuW _ _ _ | .amomaxuW _ _ _ | .amoaddD _ _ _ | .amoswapD _ _ _ | .amoandD _ _ _ | .amoorD _ _ _
  | .amominD _ _ _ | .amomaxD _ _ _ | .amominuD _ _ _ | .amomaxuD _ _ _ | .add _ _ _ | .sub _ _ _ | .slt _ _ _
  | .sltu _ _ _ | .and _ _ _ | .or _ _ _ | .xor _ _ _ | .sll _ _ _ | .srl _ _ _ | .sra _ _ _ | .addw _ _ _
  | .subw _ _ _ | .sllw _ _ _ | .srlw _ _ _ | .sraw _ _ _ | .mul _ _ _ | .mulh _ _ _ | .mulhu _ _ _
  | .mulhsu _ _ _ | .mulw _ _ _ | .div _ _ _ | .divu _ _ _ | .rem _ _ _ | .remu _ _ _ | .divw _ _ _
  | .divuw _ _ _ | .remw _ _ _ | .remuw _ _ _ | .fminS _ _ _ | .fmaxS _ _ _ | .fminD _ _ _ | .fmaxD _ _ _
  | .fsgnjS _ _ _ | .fsgnjnS _ _ _ | .fsgnjxS _ _ _ | .fsgnjD _ _ _ | .fsgnjnD _ _ _ | .fsgnjxD _ _ _
  | .feqS _ _ _ | .fltS _ _ _ | .fleS _ _ _ | .feqD _ _ _ | .fltD _ _ _ | .fleD _ _ _ => 0x0001FFFF#32
  | .slli _ _ _ | .srli _ _ _ | .srai _ _ _ => 0x003F03FF#32
  | .lui _ _ | .j _ | .jal _ => 0x0000007F#32
  | .slliw _ _ _ | .srliw _ _ _ | .sraiw _ _ _ => 0x003F83FF#32
  | .rdnpc _ | .mffsr _ | .rdcycle _ | .rdtime _ | .rdinstret _ => 0x07FFFFFF#32
  | .faddS _ _ _ _ | .fsubS _ _ _ _ | .fmulS _ _ _ _ | .fdivS _ _ _ _ | .faddD _ _ _ _ | .fsubD _ _ _ _
  | .fmulD _ _ _ _ | .fdivD _ _ _ _ => 0x0001F1FF#32
  | .fsqrtS _ _ _ | .fsqrtD _ _ _ | .fcvtLS _ _ _ | .fcvtLuS _ _ _ | .fcvtWS _ _ _ | .fcvtWuS _ _ _
  | .fcvtLD _ _ _ | .fcvtLuD _ _ _ | .fcvtWD _ _ _ | .fcvtWuD _ _ _ | .fcvtSL _ _ _ | .fcvtSLu _ _ _
  | .fcvtSW _ _ _ | .fcvtSWu _ _ _ | .fcvtDL _ _ _ | .fcvtDLu _ _ _ | .fcvtDW _ _ _ | .fcvtDWu _ _ _
  | .fcvtSD _ _ _ | .fcvtDS _ _ _ => 0x003FF1FF#32
  | .fmaddS _ _ _ _ _ | .fmsubS _ _ _ _ _ | .fnmsubS _ _ _ _ _ | .fnmaddS _ _ _ _ _ | .fmaddD _ _ _ _ _
  | .fmsubD _ _ _ _ _ | .fnmsubD _ _ _ _ _ | .fnmaddD _ _ _ _ _ => 0x000001FF#32
  | .mftxS _ _ | .mftxD _ _ => 0x07C1FFFF#32
  | .mxtfS _ _ | .mxtfD _ _ | .mtfsr _ _ => 0x003FFFFF#32
  | .syscall | .brk => 0xFFFFFFFF#32

/-- The `match` of an instruction's row: the values of the fixed bits, zero elsewhere (R108). -/
def Instr.tableMatch : Instr → InstWord
  | .lb _ _ _ => 0x00000003#32
  | .lh _ _ _ => 0x00000083#32
  | .lw _ _ _ => 0x00000103#32
  | .ld _ _ _ => 0x00000183#32
  | .lbu _ _ _ => 0x00000203#32
  | .lhu _ _ _ => 0x00000283#32
  | .lwu _ _ _ => 0x00000303#32
  | .sb _ _ _ => 0x00000023#32
  | .sh _ _ _ => 0x000000A3#32
  | .sw _ _ _ => 0x00000123#32
  | .sd _ _ _ => 0x000001A3#32
  | .flw _ _ _ => 0x00000107#32
  | .fld _ _ _ => 0x00000187#32
  | .fsw _ _ _ => 0x00000127#32
  | .fsd _ _ _ => 0x000001A7#32
  | .amoaddW _ _ _ => 0x0000012B#32
  | .amoswapW _ _ _ => 0x0000052B#32
  | .amoandW _ _ _ => 0x0000092B#32
  | .amoorW _ _ _ => 0x00000D2B#32
  | .amominW _ _ _ => 0x0000112B#32
  | .amomaxW _ _ _ => 0x0000152B#32
  | .amominuW _ _ _ => 0x0000192B#32
  | .amomaxuW _ _ _ => 0x00001D2B#32
  | .amoaddD _ _ _ => 0x000001AB#32
  | .amoswapD _ _ _ => 0x000005AB#32
  | .amoandD _ _ _ => 0x000009AB#32
  | .amoorD _ _ _ => 0x00000DAB#32
  | .amominD _ _ _ => 0x000011AB#32
  | .amomaxD _ _ _ => 0x000015AB#32
  | .amominuD _ _ _ => 0x000019AB#32
  | .amomaxuD _ _ _ => 0x00001DAB#32
  | .addi _ _ _ => 0x00000013#32
  | .slti _ _ _ => 0x00000113#32
  | .sltiu _ _ _ => 0x00000193#32
  | .andi _ _ _ => 0x00000393#32
  | .ori _ _ _ => 0x00000313#32
  | .xori _ _ _ => 0x00000213#32
  | .slli _ _ _ => 0x00000093#32
  | .srli _ _ _ => 0x00000293#32
  | .srai _ _ _ => 0x00010293#32
  | .lui _ _ => 0x00000037#32
  | .addiw _ _ _ => 0x0000001B#32
  | .slliw _ _ _ => 0x0000009B#32
  | .srliw _ _ _ => 0x0000029B#32
  | .sraiw _ _ _ => 0x0001029B#32
  | .add _ _ _ => 0x00000033#32
  | .sub _ _ _ => 0x00010033#32
  | .slt _ _ _ => 0x00000133#32
  | .sltu _ _ _ => 0x000001B3#32
  | .and _ _ _ => 0x000003B3#32
  | .or _ _ _ => 0x00000333#32
  | .xor _ _ _ => 0x00000233#32
  | .sll _ _ _ => 0x000000B3#32
  | .srl _ _ _ => 0x000002B3#32
  | .sra _ _ _ => 0x000102B3#32
  | .addw _ _ _ => 0x0000003B#32
  | .subw _ _ _ => 0x0001003B#32
  | .sllw _ _ _ => 0x000000BB#32
  | .srlw _ _ _ => 0x000002BB#32
  | .sraw _ _ _ => 0x000102BB#32
  | .mul _ _ _ => 0x00000433#32
  | .mulh _ _ _ => 0x000004B3#32
  | .mulhu _ _ _ => 0x000005B3#32
  | .mulhsu _ _ _ => 0x00000533#32
  | .mulw _ _ _ => 0x0000043B#32
  | .div _ _ _ => 0x00000633#32
  | .divu _ _ _ => 0x000006B3#32
  | .rem _ _ _ => 0x00000733#32
  | .remu _ _ _ => 0x000007B3#32
  | .divw _ _ _ => 0x0000063B#32
  | .divuw _ _ _ => 0x000006BB#32
  | .remw _ _ _ => 0x0000073B#32
  | .remuw _ _ _ => 0x000007BB#32
  | .j _ => 0x00000067#32
  | .jal _ => 0x0000006F#32
  | .jalrC _ _ _ => 0x0000006B#32
  | .jalrR _ _ _ => 0x000000EB#32
  | .jalrJ _ _ _ => 0x0000016B#32
  | .rdnpc _ => 0x0000026B#32
  | .beq _ _ _ => 0x00000063#32
  | .bne _ _ _ => 0x000000E3#32
  | .blt _ _ _ => 0x00000263#32
  | .bge _ _ _ => 0x000002E3#32
  | .bltu _ _ _ => 0x00000363#32
  | .bgeu _ _ _ => 0x000003E3#32
  | .faddS _ _ _ _ => 0x00000053#32
  | .fsubS _ _ _ _ => 0x00001053#32
  | .fmulS _ _ _ _ => 0x00002053#32
  | .fdivS _ _ _ _ => 0x00003053#32
  | .fsqrtS _ _ _ => 0x00004053#32
  | .fminS _ _ _ => 0x00018053#32
  | .fmaxS _ _ _ => 0x00019053#32
  | .faddD _ _ _ _ => 0x000000D3#32
  | .fsubD _ _ _ _ => 0x000010D3#32
  | .fmulD _ _ _ _ => 0x000020D3#32
  | .fdivD _ _ _ _ => 0x000030D3#32
  | .fsqrtD _ _ _ => 0x000040D3#32
  | .fminD _ _ _ => 0x000180D3#32
  | .fmaxD _ _ _ => 0x000190D3#32
  | .fmaddS _ _ _ _ _ => 0x00000043#32
  | .fmsubS _ _ _ _ _ => 0x00000047#32
  | .fnmsubS _ _ _ _ _ => 0x0000004B#32
  | .fnmaddS _ _ _ _ _ => 0x0000004F#32
  | .fmaddD _ _ _ _ _ => 0x000000C3#32
  | .fmsubD _ _ _ _ _ => 0x000000C7#32
  | .fnmsubD _ _ _ _ _ => 0x000000CB#32
  | .fnmaddD _ _ _ _ _ => 0x000000CF#32
  | .fcvtLS _ _ _ => 0x00008053#32
  | .fcvtLuS _ _ _ => 0x00009053#32
  | .fcvtWS _ _ _ => 0x0000A053#32
  | .fcvtWuS _ _ _ => 0x0000B053#32
  | .fcvtLD _ _ _ => 0x000080D3#32
  | .fcvtLuD _ _ _ => 0x000090D3#32
  | .fcvtWD _ _ _ => 0x0000A0D3#32
  | .fcvtWuD _ _ _ => 0x0000B0D3#32
  | .fcvtSL _ _ _ => 0x0000C053#32
  | .fcvtSLu _ _ _ => 0x0000D053#32
  | .fcvtSW _ _ _ => 0x0000E053#32
  | .fcvtSWu _ _ _ => 0x0000F053#32
  | .fcvtDL _ _ _ => 0x0000C0D3#32
  | .fcvtDLu _ _ _ => 0x0000D0D3#32
  | .fcvtDW _ _ _ => 0x0000E0D3#32
  | .fcvtDWu _ _ _ => 0x0000F0D3#32
  | .fcvtSD _ _ _ => 0x00011053#32
  | .fcvtDS _ _ _ => 0x000100D3#32
  | .fsgnjS _ _ _ => 0x00005053#32
  | .fsgnjnS _ _ _ => 0x00006053#32
  | .fsgnjxS _ _ _ => 0x00007053#32
  | .fsgnjD _ _ _ => 0x000050D3#32
  | .fsgnjnD _ _ _ => 0x000060D3#32
  | .fsgnjxD _ _ _ => 0x000070D3#32
  | .mftxS _ _ => 0x0001C053#32
  | .mftxD _ _ => 0x0001C0D3#32
  | .mxtfS _ _ => 0x0001E053#32
  | .mxtfD _ _ => 0x0001E0D3#32
  | .mffsr _ => 0x0001D053#32
  | .mtfsr _ _ => 0x0001F053#32
  | .feqS _ _ _ => 0x00015053#32
  | .fltS _ _ _ => 0x00016053#32
  | .fleS _ _ _ => 0x00017053#32
  | .feqD _ _ _ => 0x000150D3#32
  | .fltD _ _ _ => 0x000160D3#32
  | .fleD _ _ _ => 0x000170D3#32
  | .fence _ _ _ => 0x0000012F#32
  | .fenceI _ _ _ => 0x000000AF#32
  | .syscall => 0x00000077#32
  | .brk => 0x000000F7#32
  | .rdcycle _ => 0x00000277#32
  | .rdtime _ => 0x00000677#32
  | .rdinstret _ => 0x00000A77#32

end Sys2Proof
end

