-- ==== Sys2Proof/WellFormed.lean ====
section
/-! DEFINITION. Which instructions a variant admits on the strength of their words alone: the RV64-only rows, the
sixth shift-amount bit on RV32, and the rounding-mode fields that name no mode. An instruction refused here is one
that raises `IllegalInstruction` in every state of that variant. -/
namespace Sys2Proof

/-- Rows whose `variant` is `RV64`: on RV32 the word is illegal (R108, R112, D9). -/
def Instr.rv64Row : Instr → Bool
  | .ld _ _ _ | .lwu _ _ _ | .sd _ _ _ | .amoaddD _ _ _ | .amoswapD _ _ _ | .amoandD _ _ _ | .amoorD _ _ _
  | .amominD _ _ _ | .amomaxD _ _ _ | .amominuD _ _ _ | .amomaxuD _ _ _ | .addiw _ _ _ | .slliw _ _ _
  | .srliw _ _ _ | .sraiw _ _ _ | .addw _ _ _ | .subw _ _ _ | .sllw _ _ _ | .srlw _ _ _ | .sraw _ _ _
  | .mulw _ _ _ | .divw _ _ _ | .divuw _ _ _ | .remw _ _ _ | .remuw _ _ _ | .fcvtLS _ _ _ | .fcvtLuS _ _ _
  | .fcvtLD _ _ _ | .fcvtLuD _ _ _ | .fcvtSL _ _ _ | .fcvtSLu _ _ _ | .fcvtDL _ _ _ | .fcvtDLu _ _ _
  | .mftxD _ _ | .mxtfD _ _ => true
  | .lb _ _ _ | .lh _ _ _ | .lw _ _ _ | .lbu _ _ _ | .lhu _ _ _ | .sb _ _ _ | .sh _ _ _ | .sw _ _ _
  | .flw _ _ _ | .fld _ _ _ | .fsw _ _ _ | .fsd _ _ _ | .amoaddW _ _ _ | .amoswapW _ _ _ | .amoandW _ _ _
  | .amoorW _ _ _ | .amominW _ _ _ | .amomaxW _ _ _ | .amominuW _ _ _ | .amomaxuW _ _ _ | .addi _ _ _
  | .slti _ _ _ | .sltiu _ _ _ | .andi _ _ _ | .ori _ _ _ | .xori _ _ _ | .slli _ _ _ | .srli _ _ _
  | .srai _ _ _ | .lui _ _ | .add _ _ _ | .sub _ _ _ | .slt _ _ _ | .sltu _ _ _ | .and _ _ _ | .or _ _ _
  | .xor _ _ _ | .sll _ _ _ | .srl _ _ _ | .sra _ _ _ | .mul _ _ _ | .mulh _ _ _ | .mulhu _ _ _ | .mulhsu _ _ _
  | .div _ _ _ | .divu _ _ _ | .rem _ _ _ | .remu _ _ _ | .j _ | .jal _ | .jalrC _ _ _ | .jalrR _ _ _
  | .jalrJ _ _ _ | .rdnpc _ | .beq _ _ _ | .bne _ _ _ | .blt _ _ _ | .bge _ _ _ | .bltu _ _ _ | .bgeu _ _ _
  | .faddS _ _ _ _ | .fsubS _ _ _ _ | .fmulS _ _ _ _ | .fdivS _ _ _ _ | .fsqrtS _ _ _ | .fminS _ _ _
  | .fmaxS _ _ _ | .faddD _ _ _ _ | .fsubD _ _ _ _ | .fmulD _ _ _ _ | .fdivD _ _ _ _ | .fsqrtD _ _ _
  | .fminD _ _ _ | .fmaxD _ _ _ | .fmaddS _ _ _ _ _ | .fmsubS _ _ _ _ _ | .fnmsubS _ _ _ _ _
  | .fnmaddS _ _ _ _ _ | .fmaddD _ _ _ _ _ | .fmsubD _ _ _ _ _ | .fnmsubD _ _ _ _ _ | .fnmaddD _ _ _ _ _
  | .fcvtWS _ _ _ | .fcvtWuS _ _ _ | .fcvtWD _ _ _ | .fcvtWuD _ _ _ | .fcvtSW _ _ _ | .fcvtSWu _ _ _
  | .fcvtDW _ _ _ | .fcvtDWu _ _ _ | .fcvtSD _ _ _ | .fcvtDS _ _ _ | .fsgnjS _ _ _ | .fsgnjnS _ _ _
  | .fsgnjxS _ _ _ | .fsgnjD _ _ _ | .fsgnjnD _ _ _ | .fsgnjxD _ _ _ | .mftxS _ _ | .mxtfS _ _ | .mffsr _
  | .mtfsr _ _ | .feqS _ _ _ | .fltS _ _ _ | .fleS _ _ _ | .feqD _ _ _ | .fltD _ _ _ | .fleD _ _ _
  | .fence _ _ _ | .fenceI _ _ _ | .syscall | .brk | .rdcycle _ | .rdtime _ | .rdinstret _ => false

/-- The rounding-mode operand of the rows whose `rm` field is an operand (R100, R312). -/
def Instr.rm? : Instr → Option RmField
  | .faddS _ _ _ rm | .fsubS _ _ _ rm | .fmulS _ _ _ rm | .fdivS _ _ _ rm | .fsqrtS _ _ rm | .faddD _ _ _ rm
  | .fsubD _ _ _ rm | .fmulD _ _ _ rm | .fdivD _ _ _ rm | .fsqrtD _ _ rm | .fmaddS _ _ _ _ rm
  | .fmsubS _ _ _ _ rm | .fnmsubS _ _ _ _ rm | .fnmaddS _ _ _ _ rm | .fmaddD _ _ _ _ rm | .fmsubD _ _ _ _ rm
  | .fnmsubD _ _ _ _ rm | .fnmaddD _ _ _ _ rm | .fcvtLS _ _ rm | .fcvtLuS _ _ rm | .fcvtWS _ _ rm
  | .fcvtWuS _ _ rm | .fcvtLD _ _ rm | .fcvtLuD _ _ rm | .fcvtWD _ _ rm | .fcvtWuD _ _ rm | .fcvtSL _ _ rm
  | .fcvtSLu _ _ rm | .fcvtSW _ _ rm | .fcvtSWu _ _ rm | .fcvtDL _ _ rm | .fcvtDLu _ _ rm | .fcvtDW _ _ rm
  | .fcvtDWu _ _ rm | .fcvtSD _ _ rm | .fcvtDS _ _ rm => some rm
  | .lb _ _ _ | .lh _ _ _ | .lw _ _ _ | .ld _ _ _ | .lbu _ _ _ | .lhu _ _ _ | .lwu _ _ _ | .sb _ _ _
  | .sh _ _ _ | .sw _ _ _ | .sd _ _ _ | .flw _ _ _ | .fld _ _ _ | .fsw _ _ _ | .fsd _ _ _ | .amoaddW _ _ _
  | .amoswapW _ _ _ | .amoandW _ _ _ | .amoorW _ _ _ | .amominW _ _ _ | .amomaxW _ _ _ | .amominuW _ _ _
  | .amomaxuW _ _ _ | .amoaddD _ _ _ | .amoswapD _ _ _ | .amoandD _ _ _ | .amoorD _ _ _ | .amominD _ _ _
  | .amomaxD _ _ _ | .amominuD _ _ _ | .amomaxuD _ _ _ | .addi _ _ _ | .slti _ _ _ | .sltiu _ _ _ | .andi _ _ _
  | .ori _ _ _ | .xori _ _ _ | .slli _ _ _ | .srli _ _ _ | .srai _ _ _ | .lui _ _ | .addiw _ _ _ | .slliw _ _ _
  | .srliw _ _ _ | .sraiw _ _ _ | .add _ _ _ | .sub _ _ _ | .slt _ _ _ | .sltu _ _ _ | .and _ _ _ | .or _ _ _
  | .xor _ _ _ | .sll _ _ _ | .srl _ _ _ | .sra _ _ _ | .addw _ _ _ | .subw _ _ _ | .sllw _ _ _ | .srlw _ _ _
  | .sraw _ _ _ | .mul _ _ _ | .mulh _ _ _ | .mulhu _ _ _ | .mulhsu _ _ _ | .mulw _ _ _ | .div _ _ _
  | .divu _ _ _ | .rem _ _ _ | .remu _ _ _ | .divw _ _ _ | .divuw _ _ _ | .remw _ _ _ | .remuw _ _ _ | .j _
  | .jal _ | .jalrC _ _ _ | .jalrR _ _ _ | .jalrJ _ _ _ | .rdnpc _ | .beq _ _ _ | .bne _ _ _ | .blt _ _ _
  | .bge _ _ _ | .bltu _ _ _ | .bgeu _ _ _ | .fminS _ _ _ | .fmaxS _ _ _ | .fminD _ _ _ | .fmaxD _ _ _
  | .fsgnjS _ _ _ | .fsgnjnS _ _ _ | .fsgnjxS _ _ _ | .fsgnjD _ _ _ | .fsgnjnD _ _ _ | .fsgnjxD _ _ _
  | .mftxS _ _ | .mftxD _ _ | .mxtfS _ _ | .mxtfD _ _ | .mffsr _ | .mtfsr _ _ | .feqS _ _ _ | .fltS _ _ _
  | .fleS _ _ _ | .feqD _ _ _ | .fltD _ _ _ | .fleD _ _ _ | .fence _ _ _ | .fenceI _ _ _ | .syscall | .brk
  | .rdcycle _ | .rdtime _ | .rdinstret _ => none

/-- The six-bit shift amount of SLLI, SRLI and SRAI (R99, R207). -/
def Instr.shamt? : Instr → Option (BitVec 6)
  | .slli _ _ shamt | .srli _ _ shamt | .srai _ _ shamt => some shamt
  | .lb _ _ _ | .lh _ _ _ | .lw _ _ _ | .ld _ _ _ | .lbu _ _ _ | .lhu _ _ _ | .lwu _ _ _ | .sb _ _ _
  | .sh _ _ _ | .sw _ _ _ | .sd _ _ _ | .flw _ _ _ | .fld _ _ _ | .fsw _ _ _ | .fsd _ _ _ | .amoaddW _ _ _
  | .amoswapW _ _ _ | .amoandW _ _ _ | .amoorW _ _ _ | .amominW _ _ _ | .amomaxW _ _ _ | .amominuW _ _ _
  | .amomaxuW _ _ _ | .amoaddD _ _ _ | .amoswapD _ _ _ | .amoandD _ _ _ | .amoorD _ _ _ | .amominD _ _ _
  | .amomaxD _ _ _ | .amominuD _ _ _ | .amomaxuD _ _ _ | .addi _ _ _ | .slti _ _ _ | .sltiu _ _ _ | .andi _ _ _
  | .ori _ _ _ | .xori _ _ _ | .lui _ _ | .addiw _ _ _ | .slliw _ _ _ | .srliw _ _ _ | .sraiw _ _ _
  | .add _ _ _ | .sub _ _ _ | .slt _ _ _ | .sltu _ _ _ | .and _ _ _ | .or _ _ _ | .xor _ _ _ | .sll _ _ _
  | .srl _ _ _ | .sra _ _ _ | .addw _ _ _ | .subw _ _ _ | .sllw _ _ _ | .srlw _ _ _ | .sraw _ _ _ | .mul _ _ _
  | .mulh _ _ _ | .mulhu _ _ _ | .mulhsu _ _ _ | .mulw _ _ _ | .div _ _ _ | .divu _ _ _ | .rem _ _ _
  | .remu _ _ _ | .divw _ _ _ | .divuw _ _ _ | .remw _ _ _ | .remuw _ _ _ | .j _ | .jal _ | .jalrC _ _ _
  | .jalrR _ _ _ | .jalrJ _ _ _ | .rdnpc _ | .beq _ _ _ | .bne _ _ _ | .blt _ _ _ | .bge _ _ _ | .bltu _ _ _
  | .bgeu _ _ _ | .faddS _ _ _ _ | .fsubS _ _ _ _ | .fmulS _ _ _ _ | .fdivS _ _ _ _ | .fsqrtS _ _ _
  | .fminS _ _ _ | .fmaxS _ _ _ | .faddD _ _ _ _ | .fsubD _ _ _ _ | .fmulD _ _ _ _ | .fdivD _ _ _ _
  | .fsqrtD _ _ _ | .fminD _ _ _ | .fmaxD _ _ _ | .fmaddS _ _ _ _ _ | .fmsubS _ _ _ _ _ | .fnmsubS _ _ _ _ _
  | .fnmaddS _ _ _ _ _ | .fmaddD _ _ _ _ _ | .fmsubD _ _ _ _ _ | .fnmsubD _ _ _ _ _ | .fnmaddD _ _ _ _ _
  | .fcvtLS _ _ _ | .fcvtLuS _ _ _ | .fcvtWS _ _ _ | .fcvtWuS _ _ _ | .fcvtLD _ _ _ | .fcvtLuD _ _ _
  | .fcvtWD _ _ _ | .fcvtWuD _ _ _ | .fcvtSL _ _ _ | .fcvtSLu _ _ _ | .fcvtSW _ _ _ | .fcvtSWu _ _ _
  | .fcvtDL _ _ _ | .fcvtDLu _ _ _ | .fcvtDW _ _ _ | .fcvtDWu _ _ _ | .fcvtSD _ _ _ | .fcvtDS _ _ _
  | .fsgnjS _ _ _ | .fsgnjnS _ _ _ | .fsgnjxS _ _ _ | .fsgnjD _ _ _ | .fsgnjnD _ _ _ | .fsgnjxD _ _ _
  | .mftxS _ _ | .mftxD _ _ | .mxtfS _ _ | .mxtfD _ _ | .mffsr _ | .mtfsr _ _ | .feqS _ _ _ | .fltS _ _ _
  | .fleS _ _ _ | .feqD _ _ _ | .fltD _ _ _ | .fleD _ _ _ | .fence _ _ _ | .fenceI _ _ _ | .syscall | .brk
  | .rdcycle _ | .rdtime _ | .rdinstret _ => none

/-- The row exists in the variant (R112). -/
def Instr.rowExists (xl : Xlen) (i : Instr) : Bool :=
  match xl with
  | .rv32 => !i.rv64Row
  | .rv64 => true

/-- On RV32 bit 5 of a shift amount is zero (R207). -/
def Instr.shamtFits (xl : Xlen) (i : Instr) : Bool :=
  match xl, i.shamt? with
  | .rv32, some h => !h.getLsbD 5
  | .rv32, none   => true
  | .rv64, _      => true

/-- The rounding-mode field is one of the five static modes or the dynamic selector (R312). -/
def Instr.rmNamesMode (i : Instr) : Bool :=
  match i.rm? with
  | some rm => rm != 0b101#3 && rm != 0b110#3
  | none    => true

/-- Well-formed in a variant: the row exists, its shift amount fits and its rounding-mode field names a mode. -/
def Instr.wellFormed (xl : Xlen) (i : Instr) : Bool :=
  i.rowExists xl && i.shamtFits xl && i.rmNamesMode

end Sys2Proof
end

