-- ==== Sys2Proof/Certificates/Slice0/Obligations.lean ====
section
/-! DEFINITION. The statements about the machine, one definition each; OBLIGATIONS.json lists them with the rules they
formalise. -/
open Sys2Proof Sys2Proof.Machine

/-- For every instruction with every operand value, in either byte order, decoding the four bytes that hold its
word, whatever bytes follow, gives the instruction and those following bytes. -/
def Obligations.DecodeEncode : Prop :=
  ∀ (e : Endian) (i : Instr) (rest : List Byte),
    decodeBytes e (wordBytes e (encode i) ++ rest) = .ok (i, rest)

/-- For every 32-bit word and instruction, if the word decodes to the instruction then encoding the instruction
gives the word: no bit of a word is dropped or read twice. -/
def Obligations.EncodeDecode : Prop :=
  ∀ (w : InstWord) (i : Instr), decodeWord w = .ok i → encode i = w

/-- For every 32-bit word: it decodes to some instruction exactly when it matches the fixed bits of some row of
the opcode table; it matches the row of the instruction that it decodes to; and two rows that it matches are one
row. -/
def Obligations.TableDecides : Prop :=
  ∀ (w : InstWord),
    ((∃ i, decodeWord w = .ok i) ↔ ∃ i : Instr, w &&& i.tableMask = i.tableMatch) ∧
    (∀ i, decodeWord w = .ok i → w &&& i.tableMask = i.tableMatch) ∧
    (∀ i j : Instr, w &&& i.tableMask = i.tableMatch → w &&& j.tableMask = j.tableMatch →
      i.tableMask = j.tableMask ∧ i.tableMatch = j.tableMatch)

/-- Fifteen words that the spec's examples write out decode to the instructions they stand for. -/
def Obligations.DecodeWords : Prop :=
  decodeWord 0x29801103 = .ok (.lw 5 6 4) ∧ decodeWord 0x818E0123 = .ok (.sw 6 7 (-2048)) ∧
    decodeWord 0x298E052B = .ok (.amoswapW 5 6 7) ∧ decodeWord 0x29BFFC13 = .ok (.addi 5 6 (-1)) ∧
    decodeWord 0x29811293 = .ok (.srai 5 6 4) ∧ decodeWord 0x2891A2B7 = .ok (.lui 5 0x12345) ∧
    decodeWord 0x298F003B = .ok (.subw 5 6 7) ∧ decodeWord 0x298E0533 = .ok (.mulhsu 5 6 7) ∧
    decodeWord 0xFFFFFE6F = .ok (.jal (-4)) ∧ decodeWord 0xF98FF063 = .ok (.beq 6 7 (-4)) ∧
    decodeWord 0x08860E53 = .ok (.faddS 1 2 3 7) ∧ decodeWord 0x088640CB = .ok (.fnmsubD 1 2 3 4 0) ∧
    decodeWord 0x2805C053 = .ok (.mftxS 5 2) ∧ decodeWord 0x2981F053 = .ok (.mtfsr 5 6) ∧
    decodeWord 0x28000A77 = .ok (.rdinstret 5)

/-- For every state whose next fetch delivers a word that matches no row of the opcode table, the step raises
IllegalInstruction with the pc and the word. That every unassigned word traps is the spec's own decision D3 (log
entry 26). -/
def Obligations.UndefinedWordsTrap : Prop :=
  ∀ (s : State) (w : InstWord), Fetches s w → (∀ i : Instr, w &&& i.tableMask ≠ i.tableMatch) →
    step s = .fault (.illegalInstruction s.pcVal w)

/-- For every state whose next fetch delivers a word whose two lowest bits are not 11, or whose five lowest bits
are 11111, or whose major opcode is OP-FP, MADD, MSUB, NMSUB or NMADD with fmt 10 or 11, the step raises
IllegalInstruction with the pc and the word. The two low bits are the document's own words; the other two cases
are the spec's own decision D3 (log entry 26). -/
def Obligations.ReservedWordsTrap : Prop :=
  ∀ (s : State) (w : InstWord), Fetches s w →
    (w.extractLsb' 0 2 ≠ 0b11#2 ∨ w.extractLsb' 0 5 = 0b11111#5 ∨
      (opcodeF w ∈ [0b1010011#7, 0b1000011#7, 0b1000111#7, 0b1001011#7, 0b1001111#7] ∧
        fmtF w ∈ [0b10#2, 0b11#2])) →
    step s = .fault (.illegalInstruction s.pcVal w)

/-- When the next fetch delivers a word that decodes to an instruction, the step is the instruction at that
state: its next state with one more retired instruction, the two other counters moved by what the oracle draws
for the instruction and the state before it, and the draw counter moved on; its fault as it is. That every
completed instruction counts one is the spec's own decision D23 (log entry 32). That each of the other two
counters grows by a free amount of the instruction and the state before it, the form in which the oracle stands
in the model, is the model's choice (log entry 17), and the draw counter is the model's own (log entry 10). -/
def Obligations.StepRunsDecoded : Prop :=
  ∀ (s : State) (w : InstWord) (i : Instr), Fetches s w → decodeWord w = .ok i →
    (∀ t, exec i s = .next t →
      step s = .next { t with
        instret := t.instret + 1
        cycle := t.cycle + Config.cycleTick i s
        time := t.time + Config.timeTick i s
        draws := t.draws + 1 }) ∧
    ∀ e, exec i s = .fault e → step s = .fault e

/-- When the pc is not a multiple of 4 the step raises InstructionAddressMisaligned with that pc, whatever else
holds; when it is a multiple of 4 and a byte of the word is not admitted for fetch, the step raises AccessFault
with the pc and the first such byte. The order of the two checks is the spec's own decision D22 (log entry 31),
AccessFault is its model-only fault of D7, and naming the first refused byte is the model's choice (log entry
19). -/
def Obligations.FetchTraps : Prop :=
  ∀ (s : State),
    (s.pcVal.toNat % 4 ≠ 0 → step s = .fault (.instructionAddressMisaligned s.pcVal)) ∧
    (∀ a, s.pcVal.toNat % 4 = 0 → firstRefused s.params .fetch (s.addrs s.pcVal 4) = some a →
      step s = .fault (.accessFault s.pcVal a .fetch))

/-- With no earlier parcel value left to see at an address and two bytes above it, the fetched word has, byte by
byte, the image of the spec: the low parcel at the lower address in both byte orders, the bytes within a parcel
in the byte order of the machine. -/
def Obligations.FetchOrder : Prop :=
  ∀ (s : State) (a : Nat), s.oldParcels a = [] → s.oldParcels (a + 2) = [] →
    (s.endian = .little →
      s.readByte a = (s.fetchWord a).extractLsb' 0 8 ∧ s.readByte (a + 1) = (s.fetchWord a).extractLsb' 8 8 ∧
      s.readByte (a + 2) = (s.fetchWord a).extractLsb' 16 8 ∧
      s.readByte (a + 3) = (s.fetchWord a).extractLsb' 24 8) ∧
    (s.endian = .big →
      s.readByte a = (s.fetchWord a).extractLsb' 8 8 ∧ s.readByte (a + 1) = (s.fetchWord a).extractLsb' 0 8 ∧
      s.readByte (a + 2) = (s.fetchWord a).extractLsb' 24 8 ∧
      s.readByte (a + 3) = (s.fetchWord a).extractLsb' 16 8)

/-- A fetched parcel is the one memory now holds or an earlier value that is still recorded; a store records,
for every byte that it stores to, the parcel as it stood before the store, drops nothing recorded, and records
nothing else but, where it is misaligned, values of such a parcel whose bytes are each what memory held there
before or after the store; with nothing recorded the fetched parcel is the one memory holds. Old or new for each
parcel is the spec's own decision D30; the list that holds the earlier values, and that a misaligned store
leaves mixed values, are the model's choices (log entry 18). -/
def Obligations.FetchRace : Prop :=
  (∀ (s : State) (p : Nat), s.seenParcel p = currentParcel s.mem p ∨
      (s.seenParcel p ∈ s.stale ∧ (s.seenParcel p).addr = p)) ∧
    (∀ (s : State) (addr : Word) (n : Nat) (v : Word),
      RecordsParcels (s.addrs addr n) s (s.store addr n v) ∧
      (addr.toNat % n = 0 → ∀ o ∈ (s.store addr n v).stale, o ∈ s.stale ∨
        ∃ a ∈ s.addrs addr n, o = currentParcel s.mem (a - a % 2))) ∧
    ∀ (s : State) (p : Nat), s.stale = [] → s.seenParcel p = currentParcel s.mem p

/-- FENCE, whatever its ignored bits hold, answers a next state in which only the pc differs, being the address
of the following instruction; FENCE.I does the same and in addition leaves no earlier parcel value for fetch to
see, so that every later fetch reads what memory holds. That a FENCE has no effect in a machine of one hardware
thread is the model's inference (log entry 40). -/
def Obligations.Fences : Prop :=
  ∀ (s : State) (rd rs1 : BitVec 5) (imm : BitVec 12),
    (∃ t, exec (.fence rd rs1 imm) s = .next t ∧ JumpFrame s t ∧ InSequence s t) ∧
    ∃ t, exec (.fenceI rd rs1 imm) s = .next t ∧ KeepsX s t ∧ KeepsF s t ∧ KeepsFsr s t ∧ KeepsMem s t ∧
      KeepsRest s t ∧ InSequence s t ∧ t.stale = [] ∧ ∀ p, t.seenParcel p = currentParcel s.mem p

/-- In every state ADD, SUB and ADDI complete; rd reads the sum, the difference, or the sum with the
sign-extended immediate, modulo 2^XPRLEN (zero when rd is x0), and nothing but rd and the pc changes. -/
def Obligations.AddSub : Prop :=
  ∀ (s : State) (rd rs1 rs2 : XReg) (imm : BitVec 12),
    CompletesX (.add rd rs1 rs2) s rd (s.ux rs1 + s.ux rs2) ∧
    CompletesX (.sub rd rs1 rs2) s rd (s.ux rs1 - s.ux rs2) ∧
    CompletesX (.addi rd rs1 imm) s rd (s.ux rs1 + imm.toInt)

/-- In every state AND, OR, XOR, ANDI, ORI and XORI complete; rd reads the bitwise result of the two XPRLEN-bit
operands, an immediate being sign-extended, and nothing but rd and the pc changes. -/
def Obligations.Logic : Prop :=
  ∀ (s : State) (rd rs1 rs2 : XReg) (imm : BitVec 12),
    CompletesX (.and rd rs1 rs2) s rd (s.ux rs1 &&& s.ux rs2 : Nat) ∧
    CompletesX (.or rd rs1 rs2) s rd (s.ux rs1 ||| s.ux rs2 : Nat) ∧
    CompletesX (.xor rd rs1 rs2) s rd (s.ux rs1 ^^^ s.ux rs2 : Nat) ∧
    CompletesX (.andi rd rs1 imm) s rd (s.ux rs1 &&& (imm.toInt % s.modulus).toNat : Nat) ∧
    CompletesX (.ori rd rs1 imm) s rd (s.ux rs1 ||| (imm.toInt % s.modulus).toNat : Nat) ∧
    CompletesX (.xori rd rs1 imm) s rd (s.ux rs1 ^^^ (imm.toInt % s.modulus).toNat : Nat)

/-- In every state SLT, SLTU, SLTI and SLTIU complete; rd reads 1 when the first operand is less than the
second, read as signed or unsigned XPRLEN-bit numbers, else 0; the immediate of SLTIU is sign-extended and then
read as unsigned; nothing but rd and the pc changes. -/
def Obligations.SetLess : Prop :=
  ∀ (s : State) (rd rs1 rs2 : XReg) (imm : BitVec 12),
    CompletesX (.slt rd rs1 rs2) s rd (if s.sx rs1 < s.sx rs2 then 1 else 0) ∧
    CompletesX (.sltu rd rs1 rs2) s rd (if s.ux rs1 < s.ux rs2 then 1 else 0) ∧
    CompletesX (.slti rd rs1 imm) s rd (if s.sx rs1 < imm.toInt then 1 else 0) ∧
    CompletesX (.sltiu rd rs1 imm) s rd (if (s.ux rs1 : Int) < imm.toInt % s.modulus then 1 else 0)

/-- In every state SLL, SRL and SRA complete; the amount is the low 5 or 6 bits of rs2; rd reads rs1 times
2^amount modulo 2^XPRLEN, the unsigned value divided by 2^amount, or the signed value divided by 2^amount
rounding down; nothing but rd and the pc changes. -/
def Obligations.ShiftReg : Prop :=
  ∀ (s : State) (rd rs1 rs2 : XReg),
    CompletesX (.sll rd rs1 rs2) s rd (s.ux rs1 * 2 ^ (s.ux rs2 % s.xlen.bits) : Nat) ∧
    CompletesX (.srl rd rs1 rs2) s rd (s.ux rs1 / 2 ^ (s.ux rs2 % s.xlen.bits) : Nat) ∧
    CompletesX (.sra rd rs1 rs2) s rd (s.sx rs1 / 2 ^ (s.ux rs2 % s.xlen.bits))

/-- When the amount is less than XPRLEN, SLLI, SRLI and SRAI complete with the shifted value in rd and nothing
but rd and the pc changed; on RV32 an amount of 32 or more raises IllegalInstruction. -/
def Obligations.ShiftImm : Prop :=
  ∀ (s : State) (rd rs1 : XReg) (sh : BitVec 6),
    (sh.toNat < s.xlen.bits →
      CompletesX (.slli rd rs1 sh) s rd (s.ux rs1 * 2 ^ sh.toNat : Nat) ∧
      CompletesX (.srli rd rs1 sh) s rd (s.ux rs1 / 2 ^ sh.toNat : Nat) ∧
      CompletesX (.srai rd rs1 sh) s rd (s.sx rs1 / 2 ^ sh.toNat)) ∧
    (s.xlen.bits ≤ sh.toNat →
      TrapsIllegal (.slli rd rs1 sh) s ∧ TrapsIllegal (.srli rd rs1 sh) s ∧ TrapsIllegal (.srai rd rs1 sh) s)

/-- In every state LUI completes; rd reads the signed 20-bit immediate times 2^12 modulo 2^XPRLEN, and nothing
but rd and the pc changes. -/
def Obligations.LuiResult : Prop :=
  ∀ (s : State) (rd : XReg) (imm : BitVec 20), CompletesX (.lui rd imm) s rd (imm.toInt * 2 ^ 12)

/-- On RV64 ADDW, SUBW, ADDIW and MULW complete; rd reads the 32-bit result on the low words of the operands as
a signed number, and nothing but rd and the pc changes; on RV32 each raises IllegalInstruction. -/
def Obligations.WordArith : Prop :=
  ∀ (s : State) (rd rs1 rs2 : XReg) (imm : BitVec 12),
    (s.xlen = .rv64 →
      CompletesX (.addw rd rs1 rs2) s rd (Int.bmod (s.uxLow rs1 + s.uxLow rs2) (2 ^ 32)) ∧
      CompletesX (.subw rd rs1 rs2) s rd (Int.bmod (s.uxLow rs1 - s.uxLow rs2) (2 ^ 32)) ∧
      CompletesX (.addiw rd rs1 imm) s rd (Int.bmod (s.uxLow rs1 + imm.toInt) (2 ^ 32)) ∧
      CompletesX (.mulw rd rs1 rs2) s rd (Int.bmod (s.uxLow rs1 * s.uxLow rs2) (2 ^ 32))) ∧
    (s.xlen = .rv32 →
      TrapsIllegal (.addw rd rs1 rs2) s ∧ TrapsIllegal (.subw rd rs1 rs2) s ∧
      TrapsIllegal (.addiw rd rs1 imm) s ∧ TrapsIllegal (.mulw rd rs1 rs2) s)

/-- On RV64 SLLW, SRLW, SRAW (amount: the low 5 bits of rs2) and SLLIW, SRLIW, SRAIW complete; rd reads the
32-bit result as a signed number and nothing but rd and the pc changes; on RV32 each raises IllegalInstruction.
That the upper halves are ignored and that each traps on RV32 is rule R217. -/
def Obligations.WordShift : Prop :=
  ∀ (s : State) (rd rs1 rs2 : XReg) (sh : BitVec 5),
    (s.xlen = .rv64 →
      CompletesX (.sllw rd rs1 rs2) s rd (Int.bmod (s.uxLow rs1 * 2 ^ (s.ux rs2 % 32)) (2 ^ 32)) ∧
      CompletesX (.srlw rd rs1 rs2) s rd (Int.bmod (s.uxLow rs1 / 2 ^ (s.ux rs2 % 32)) (2 ^ 32)) ∧
      CompletesX (.sraw rd rs1 rs2) s rd (s.sxLow rs1 / 2 ^ (s.ux rs2 % 32)) ∧
      CompletesX (.slliw rd rs1 sh) s rd (Int.bmod (s.uxLow rs1 * 2 ^ sh.toNat) (2 ^ 32)) ∧
      CompletesX (.srliw rd rs1 sh) s rd (Int.bmod (s.uxLow rs1 / 2 ^ sh.toNat) (2 ^ 32)) ∧
      CompletesX (.sraiw rd rs1 sh) s rd (s.sxLow rs1 / 2 ^ sh.toNat)) ∧
    (s.xlen = .rv32 →
      TrapsIllegal (.sllw rd rs1 rs2) s ∧ TrapsIllegal (.srlw rd rs1 rs2) s ∧
      TrapsIllegal (.sraw rd rs1 rs2) s ∧ TrapsIllegal (.slliw rd rs1 sh) s ∧
      TrapsIllegal (.srliw rd rs1 sh) s ∧ TrapsIllegal (.sraiw rd rs1 sh) s)

/-- In every state MUL, MULH, MULHU and MULHSU complete; rd reads the product modulo 2^XPRLEN, or the exact
signed, unsigned or signed-by-unsigned product divided by 2^XPRLEN rounding down, modulo 2^XPRLEN; nothing but
rd and the pc changes. That rs1 is the signed operand of MULHSU is the spec's own decision D35 (log entry 34).
-/
def Obligations.Multiply : Prop :=
  ∀ (s : State) (rd rs1 rs2 : XReg),
    CompletesX (.mul rd rs1 rs2) s rd (s.ux rs1 * s.ux rs2) ∧
    CompletesX (.mulh rd rs1 rs2) s rd (s.sx rs1 * s.sx rs2 / s.modulus) ∧
    CompletesX (.mulhu rd rs1 rs2) s rd (s.ux rs1 * s.ux rs2 / s.modulus : Nat) ∧
    CompletesX (.mulhsu rd rs1 rs2) s rd (s.sx rs1 * s.ux rs2 / s.modulus)

/-- In every state DIV, DIVU, REM and REMU complete; by zero the quotient has all bits set and the remainder is
the dividend; the most negative number by −1 gives the dividend and remainder 0; otherwise the quotient is
truncated toward zero and the remainder has the sign of the dividend; nothing but rd and the pc changes.
Truncation toward zero is the spec's own decision D34 (log entry 34). -/
def Obligations.Divide : Prop :=
  ∀ (s : State) (rd rs1 rs2 : XReg),
    CompletesX (.div rd rs1 rs2) s rd
      (if s.ux rs2 = 0 then -1
       else if s.sx rs1 = -2 ^ (s.xlen.bits - 1) ∧ s.sx rs2 = -1 then s.ux rs1
       else (s.sx rs1).tdiv (s.sx rs2)) ∧
    CompletesX (.divu rd rs1 rs2) s rd (if s.ux rs2 = 0 then -1 else (s.ux rs1 / s.ux rs2 : Nat)) ∧
    CompletesX (.rem rd rs1 rs2) s rd
      (if s.ux rs2 = 0 then s.ux rs1
       else if s.sx rs1 = -2 ^ (s.xlen.bits - 1) ∧ s.sx rs2 = -1 then 0
       else (s.sx rs1).tmod (s.sx rs2)) ∧
    CompletesX (.remu rd rs1 rs2) s rd (if s.ux rs2 = 0 then s.ux rs1 else (s.ux rs1 % s.ux rs2 : Nat))

/-- On RV64 DIVW, DIVUW, REMW and REMUW complete with the division laws at 32 bits on the low words, the 32-bit
result read as a signed number, and nothing but rd and the pc changed; on RV32 each raises IllegalInstruction.
Truncation toward zero and the corner cases at 32 bits are the spec's own decisions D34 and D36 (log entry 34).
-/
def Obligations.DivideWord : Prop :=
  ∀ (s : State) (rd rs1 rs2 : XReg),
    (s.xlen = .rv64 →
      CompletesX (.divw rd rs1 rs2) s rd
        (if s.uxLow rs2 = 0 then -1
         else if s.sxLow rs1 = -2 ^ 31 ∧ s.sxLow rs2 = -1 then s.sxLow rs1
         else (s.sxLow rs1).tdiv (s.sxLow rs2)) ∧
      CompletesX (.divuw rd rs1 rs2) s rd
        (if s.uxLow rs2 = 0 then -1 else Int.bmod (s.uxLow rs1 / s.uxLow rs2 : Nat) (2 ^ 32)) ∧
      CompletesX (.remw rd rs1 rs2) s rd
        (if s.uxLow rs2 = 0 then s.sxLow rs1
         else if s.sxLow rs1 = -2 ^ 31 ∧ s.sxLow rs2 = -1 then 0
         else (s.sxLow rs1).tmod (s.sxLow rs2)) ∧
      CompletesX (.remuw rd rs1 rs2) s rd
        (if s.uxLow rs2 = 0 then s.sxLow rs1 else Int.bmod (s.uxLow rs1 % s.uxLow rs2 : Nat) (2 ^ 32))) ∧
    (s.xlen = .rv32 →
      TrapsIllegal (.divw rd rs1 rs2) s ∧ TrapsIllegal (.divuw rd rs1 rs2) s ∧
      TrapsIllegal (.remw rd rs1 rs2) s ∧ TrapsIllegal (.remuw rd rs1 rs2) s)

/-- At every width above zero and for every dividend and divisor, zero and overflow included, the divisor times
the quotient plus the remainder is the dividend modulo 2^n, signed and unsigned. It is the spec's own derived
identity and rests on its decision D34 (log entry 34). -/
def Obligations.DivisionIdentity : Prop :=
  ∀ (n : Nat) (a b : BitVec n), 0 < n →
    b * divOp n a b + remOp n a b = a ∧ b * divuOp n a b + remuOp n a b = a

/-- In every state J completes at the pc plus twice the signed offset, modulo 2^XPRLEN, and changes nothing but
the pc; JAL does the same and writes the address of the following instruction to x1 and to no other register.
That the target wraps modulo 2^XPRLEN and that a transfer to a misaligned target completes are the spec's own
decisions D5 and D29 (log entry 27). -/
def Obligations.Jumps : Prop :=
  ∀ (s : State) (off : BitVec 25),
    CompletesJump (.j off) s (s.pcVal.toNat + 2 * off.toInt) ∧
    CompletesLink (.jal off) s 1#5 (s.pcVal.toNat + 2 * off.toInt)

/-- In every state JALR.C, JALR.R and JALR.J complete at the old value of rs1 plus the sign-extended immediate,
modulo 2^XPRLEN, and write the address of the following instruction to rd; RDNPC writes that address to rd and
goes on in sequence; nothing else changes. That the target wraps modulo 2^XPRLEN and that a transfer to a
misaligned target completes are the spec's own decisions D5 and D29 (log entry 27). That the old value of rs1 is
read before rd is written is its decision D28 (log entry 33). -/
def Obligations.IndirectJumps : Prop :=
  ∀ (s : State) (rd rs1 : XReg) (imm : BitVec 12),
    CompletesLink (.jalrC rd rs1 imm) s rd (s.ux rs1 + imm.toInt) ∧
    CompletesLink (.jalrR rd rs1 imm) s rd (s.ux rs1 + imm.toInt) ∧
    CompletesLink (.jalrJ rd rs1 imm) s rd (s.ux rs1 + imm.toInt) ∧
    CompletesX (.rdnpc rd) s rd (s.pcVal.toNat + 4)

/-- In every state BEQ, BNE, BLT, BGE, BLTU and BGEU complete, change nothing but the pc, and leave it at the pc
plus twice the signed immediate when the condition holds and at the following instruction when it does not,
modulo 2^XPRLEN. That the target wraps modulo 2^XPRLEN and that a transfer to a misaligned target completes are
the spec's own decisions D5 and D29 (log entry 27). -/
def Obligations.Branches : Prop :=
  ∀ (s : State) (rs1 rs2 : XReg) (imm : BitVec 12),
    let taken : Int := s.pcVal.toNat + 2 * imm.toInt
    let next : Int := s.pcVal.toNat + 4
    CompletesJump (.beq rs1 rs2 imm) s (if s.ux rs1 = s.ux rs2 then taken else next) ∧
    CompletesJump (.bne rs1 rs2 imm) s (if s.ux rs1 ≠ s.ux rs2 then taken else next) ∧
    CompletesJump (.blt rs1 rs2 imm) s (if s.sx rs1 < s.sx rs2 then taken else next) ∧
    CompletesJump (.bge rs1 rs2 imm) s (if s.sx rs2 ≤ s.sx rs1 then taken else next) ∧
    CompletesJump (.bltu rs1 rs2 imm) s (if s.ux rs1 < s.ux rs2 then taken else next) ∧
    CompletesJump (.bgeu rs1 rs2 imm) s (if s.ux rs2 ≤ s.ux rs1 then taken else next)

/-- The effective address is the base plus the sign-extended immediate modulo 2^XPRLEN. When every byte of the
access is admitted for reading, LB, LH, LW, LBU, LHU, and on RV64 LD and LWU, complete; rd reads the number that
the bytes hold in the byte order of the machine, sign- or zero-extended, aligned or not, and nothing but rd and
the pc changes; on RV32 LD and LWU raise IllegalInstruction. That the address wraps and that a misaligned load
is performed are the spec's own readings, D5 and D6 (log entries 27 and 28). -/
def Obligations.LoadsX : Prop :=
  ∀ (s : State) (rd rs1 : XReg) (imm : BitVec 12),
    let ea := s.effAddr rs1 imm
    ((ea.toNat : Int) = (s.ux rs1 + imm.toInt) % s.modulus) ∧
    (s.admits .read ea 1 = true →
      CompletesX (.lb rd rs1 imm) s rd (Int.bmod (s.memNat ea.toNat 1) (2 ^ 8)) ∧
      CompletesX (.lbu rd rs1 imm) s rd (s.memNat ea.toNat 1)) ∧
    (s.admits .read ea 2 = true →
      CompletesX (.lh rd rs1 imm) s rd (Int.bmod (s.memNat ea.toNat 2) (2 ^ 16)) ∧
      CompletesX (.lhu rd rs1 imm) s rd (s.memNat ea.toNat 2)) ∧
    (s.admits .read ea 4 = true →
      CompletesX (.lw rd rs1 imm) s rd (Int.bmod (s.memNat ea.toNat 4) (2 ^ 32)) ∧
      (s.xlen = .rv64 → CompletesX (.lwu rd rs1 imm) s rd (s.memNat ea.toNat 4))) ∧
    (s.admits .read ea 8 = true → s.xlen = .rv64 →
      CompletesX (.ld rd rs1 imm) s rd (s.memNat ea.toNat 8)) ∧
    (s.xlen = .rv32 → TrapsIllegal (.ld rd rs1 imm) s ∧ TrapsIllegal (.lwu rd rs1 imm) s)

/-- When every byte of the access is admitted for reading, FLW and FLD complete on both variants; rd becomes a
single or a double cell with the bits that the bytes hold, no flag is set, and nothing but rd and the pc
changes. That the address wraps and that a misaligned load is performed are the spec's own readings, D5 and D6
(log entries 27 and 28). -/
def Obligations.LoadsF : Prop :=
  ∀ (s : State) (rd : FReg) (rs1 : XReg) (imm : BitVec 12),
    let ea := s.effAddr rs1 imm
    (s.admits .read ea 4 = true → ∃ t, exec (.flw rd rs1 imm) s = .next t ∧ FFrame rd s t ∧ KeepsFsr s t ∧
      t.cellF rd = .s (BitVec.ofNat 32 (s.memNat ea.toNat 4))) ∧
    (s.admits .read ea 8 = true → ∃ t, exec (.fld rd rs1 imm) s = .next t ∧ FFrame rd s t ∧ KeepsFsr s t ∧
      t.cellF rd = .d (BitVec.ofNat 64 (s.memNat ea.toNat 8)))

/-- When every byte of the access is admitted for writing, SB, SH, SW, and on RV64 SD, complete; the bytes of
the access hold the low bytes of rs2 in the byte order of the machine, aligned or not, every other byte of
memory and every register reads as before, and the parcels of the stored bytes stand recorded for fetch as they
were, with nothing recorded dropped and nothing else added but values of those parcels made of their bytes
before and after; on RV32 SD raises IllegalInstruction. That the address wraps and that a misaligned store is
performed are the spec's own readings, D5 and D6 (log entries 27 and 28). That the replaced parcels stay visible
to fetch is its decision D30 (log entry 18). -/
def Obligations.StoresX : Prop :=
  ∀ (s : State) (rs1 rs2 : XReg) (imm : BitVec 12),
    let ea := s.effAddr rs1 imm
    (s.admits .write ea 1 = true → CompletesStore (.sb rs1 rs2 imm) s ea 1 (s.ux rs2)) ∧
    (s.admits .write ea 2 = true → CompletesStore (.sh rs1 rs2 imm) s ea 2 (s.ux rs2)) ∧
    (s.admits .write ea 4 = true → CompletesStore (.sw rs1 rs2 imm) s ea 4 (s.ux rs2)) ∧
    (s.admits .write ea 8 = true → s.xlen = .rv64 → CompletesStore (.sd rs1 rs2 imm) s ea 8 (s.ux rs2)) ∧
    (s.xlen = .rv32 → TrapsIllegal (.sd rs1 rs2 imm) s)

/-- When every byte of the access is admitted for writing, FSW and FSD complete on both variants; the bytes of
the access hold the single or double pattern that the register reads as, every other byte of memory and every
register reads as before, and the parcels of the stored bytes stand recorded for fetch as they were, with
nothing recorded dropped and nothing else added but values of those parcels made of their bytes before and
after. A register last written in a format reads in that format as the pattern that was written. That a register
is a tagged cell is the spec's own decision D12 (log entry 11). That a register last written in the other format
is read as a free value, so that the store completes, is the model's choice (log entry 11, D12). That the
address wraps and that a misaligned store is performed are the spec's own readings, D5 and D6 (log entries 27
and 28). That the replaced parcels stay visible to fetch is its decision D30 (log entry 18). -/
def Obligations.StoresF : Prop :=
  ∀ (s : State) (rs1 : XReg) (rs2 : FReg) (imm : BitVec 12),
    let ea := s.effAddr rs1 imm
    (s.admits .write ea 4 = true → CompletesStore (.fsw rs1 rs2 imm) s ea 4 (s.getS rs2).toNat) ∧
    (s.admits .write ea 8 = true → CompletesStore (.fsd rs1 rs2 imm) s ea 8 (s.getD rs2).toNat) ∧
    ∀ (b : BitVec 32) (c : BitVec 64),
      (s.cellF rs2 = .s b → s.getS rs2 = b) ∧ (s.cellF rs2 = .d c → s.getD rs2 = c)

/-- When a byte of the access is not admitted, each load and store of the variant, and each AMO of the variant
at an aligned address, faults with the pc, the first such byte and the kind of access, an AMO checking the read
before the write; nothing is read or written. AccessFault is the spec's model-only fault of D7, and two things
are the model's choice (log entry 19): naming the first refused byte, and that an AMO reports the read before
the write. -/
def Obligations.AccessFaults : Prop :=
  ∀ (s : State) (r rs1 : XReg) (imm : BitVec 12) (a : Nat),
    let ea := s.effAddr rs1 imm
    let addr := s.getX rs1
    (firstRefused s.params .read (s.addrs ea 1) = some a →
      TrapsAccess (.lb r rs1 imm) s a .read ∧ TrapsAccess (.lbu r rs1 imm) s a .read) ∧
    (firstRefused s.params .read (s.addrs ea 2) = some a →
      TrapsAccess (.lh r rs1 imm) s a .read ∧ TrapsAccess (.lhu r rs1 imm) s a .read) ∧
    (firstRefused s.params .read (s.addrs ea 4) = some a →
      TrapsAccess (.lw r rs1 imm) s a .read ∧ TrapsAccess (.flw r rs1 imm) s a .read ∧
      (s.xlen = .rv64 → TrapsAccess (.lwu r rs1 imm) s a .read)) ∧
    (firstRefused s.params .read (s.addrs ea 8) = some a →
      TrapsAccess (.fld r rs1 imm) s a .read ∧ (s.xlen = .rv64 → TrapsAccess (.ld r rs1 imm) s a .read)) ∧
    (firstRefused s.params .write (s.addrs ea 1) = some a → TrapsAccess (.sb rs1 r imm) s a .write) ∧
    (firstRefused s.params .write (s.addrs ea 2) = some a → TrapsAccess (.sh rs1 r imm) s a .write) ∧
    (firstRefused s.params .write (s.addrs ea 4) = some a →
      TrapsAccess (.sw rs1 r imm) s a .write ∧ TrapsAccess (.fsw rs1 r imm) s a .write) ∧
    (firstRefused s.params .write (s.addrs ea 8) = some a →
      TrapsAccess (.fsd rs1 r imm) s a .write ∧ (s.xlen = .rv64 → TrapsAccess (.sd rs1 r imm) s a .write)) ∧
    ∀ (rd : XReg) (k : AccessKind),
      (s.ux rs1 % 4 = 0 →
        (k = .read ∧ firstRefused s.params .read (s.addrs addr 4) = some a ∨
          k = .write ∧ s.admits .read addr 4 = true ∧ firstRefused s.params .write (s.addrs addr 4) = some a) →
        TrapsAccess (.amoaddW rd rs1 r) s a k ∧ TrapsAccess (.amoswapW rd rs1 r) s a k ∧
        TrapsAccess (.amoandW rd rs1 r) s a k ∧ TrapsAccess (.amoorW rd rs1 r) s a k ∧
        TrapsAccess (.amominW rd rs1 r) s a k ∧ TrapsAccess (.amomaxW rd rs1 r) s a k ∧
        TrapsAccess (.amominuW rd rs1 r) s a k ∧ TrapsAccess (.amomaxuW rd rs1 r) s a k) ∧
      (s.xlen = .rv64 → s.ux rs1 % 8 = 0 →
        (k = .read ∧ firstRefused s.params .read (s.addrs addr 8) = some a ∨
          k = .write ∧ s.admits .read addr 8 = true ∧ firstRefused s.params .write (s.addrs addr 8) = some a) →
        TrapsAccess (.amoaddD rd rs1 r) s a k ∧ TrapsAccess (.amoswapD rd rs1 r) s a k ∧
        TrapsAccess (.amoandD rd rs1 r) s a k ∧ TrapsAccess (.amoorD rd rs1 r) s a k ∧
        TrapsAccess (.amominD rd rs1 r) s a k ∧ TrapsAccess (.amomaxD rd rs1 r) s a k ∧
        TrapsAccess (.amominuD rd rs1 r) s a k ∧ TrapsAccess (.amomaxuD rd rs1 r) s a k)

/-- When the address in rs1 is a multiple of 4 and its four bytes are admitted for reading and writing, each
32-bit AMO completes: rd reads the old word as a signed number, the four bytes hold the operator applied to the
old word and the low word of rs2, their parcels stand recorded for fetch as they were with nothing recorded
dropped and nothing else added but values of those parcels made of their bytes before and after, and nothing
else but the pc changes; signed minimum and maximum compare 32-bit signed values. The 32-bit operand and
comparison on RV64 are the spec's own decision D10 (log entry 29). That the replaced parcels stay visible to
fetch is its decision D30 (log entry 18). -/
def Obligations.AmoWord : Prop :=
  ∀ (s : State) (rd rs1 rs2 : XReg),
    let addr := s.getX rs1
    let old := s.memNat addr.toNat 4
    let src := s.uxLow rs2
    addr.toNat % 4 = 0 → s.admits .read addr 4 = true → s.admits .write addr 4 = true →
      CompletesAmo (.amoaddW rd rs1 rs2) s rd addr 4 (Int.bmod old (2 ^ 32))
        (old + src) ∧
      CompletesAmo (.amoswapW rd rs1 rs2) s rd addr 4 (Int.bmod old (2 ^ 32))
        (src) ∧
      CompletesAmo (.amoandW rd rs1 rs2) s rd addr 4 (Int.bmod old (2 ^ 32))
        (old &&& src) ∧
      CompletesAmo (.amoorW rd rs1 rs2) s rd addr 4 (Int.bmod old (2 ^ 32))
        (old ||| src) ∧
      CompletesAmo (.amominW rd rs1 rs2) s rd addr 4 (Int.bmod old (2 ^ 32))
        (if (Int.bmod old (2 ^ 32)) < s.sxLow rs2 then old else src) ∧
      CompletesAmo (.amomaxW rd rs1 rs2) s rd addr 4 (Int.bmod old (2 ^ 32))
        (if (Int.bmod old (2 ^ 32)) > s.sxLow rs2 then old else src) ∧
      CompletesAmo (.amominuW rd rs1 rs2) s rd addr 4 (Int.bmod old (2 ^ 32))
        (if old < src then old else src) ∧
      CompletesAmo (.amomaxuW rd rs1 rs2) s rd addr 4 (Int.bmod old (2 ^ 32))
        (if old > src then old else src)

/-- On RV64, when the address in rs1 is a multiple of 8 and its eight bytes are admitted for reading and
writing, each 64-bit AMO completes: rd reads the old doubleword, the eight bytes hold the operator applied to it
and rs2, their parcels stand recorded for fetch as they were with nothing recorded dropped and nothing else
added but values of those parcels made of their bytes before and after, and nothing else but the pc changes.
That these rows exist on RV64 only is the spec's own decision D9 (log entry 26). That the replaced parcels stay
visible to fetch is its decision D30 (log entry 18). -/
def Obligations.AmoDouble : Prop :=
  ∀ (s : State) (rd rs1 rs2 : XReg),
    let addr := s.getX rs1
    let old := s.memNat addr.toNat 8
    let src := s.ux rs2
    s.xlen = .rv64 → addr.toNat % 8 = 0 → s.admits .read addr 8 = true → s.admits .write addr 8 = true →
      CompletesAmo (.amoaddD rd rs1 rs2) s rd addr 8 (Int.bmod old (2 ^ 64))
        (old + src) ∧
      CompletesAmo (.amoswapD rd rs1 rs2) s rd addr 8 (Int.bmod old (2 ^ 64))
        (src) ∧
      CompletesAmo (.amoandD rd rs1 rs2) s rd addr 8 (Int.bmod old (2 ^ 64))
        (old &&& src) ∧
      CompletesAmo (.amoorD rd rs1 rs2) s rd addr 8 (Int.bmod old (2 ^ 64))
        (old ||| src) ∧
      CompletesAmo (.amominD rd rs1 rs2) s rd addr 8 (Int.bmod old (2 ^ 64))
        (if (Int.bmod old (2 ^ 64)) < s.sx rs2 then old else src) ∧
      CompletesAmo (.amomaxD rd rs1 rs2) s rd addr 8 (Int.bmod old (2 ^ 64))
        (if (Int.bmod old (2 ^ 64)) > s.sx rs2 then old else src) ∧
      CompletesAmo (.amominuD rd rs1 rs2) s rd addr 8 (Int.bmod old (2 ^ 64))
        (if old < src then old else src) ∧
      CompletesAmo (.amomaxuD rd rs1 rs2) s rd addr 8 (Int.bmod old (2 ^ 64))
        (if old > src then old else src)

/-- A 32-bit AMO whose address is not a multiple of 4, and on RV64 a 64-bit AMO whose address is not a multiple
of 8, raises AMOAddressMisaligned with the pc and the address. -/
def Obligations.AmoMisaligned : Prop :=
  ∀ (s : State) (rd rs1 rs2 : XReg),
    let trap : Out := .fault (.amoAddressMisaligned s.pcVal (s.getX rs1))
    (s.ux rs1 % 4 ≠ 0 →
      exec (.amoaddW rd rs1 rs2) s = trap ∧ exec (.amoswapW rd rs1 rs2) s = trap ∧
      exec (.amoandW rd rs1 rs2) s = trap ∧ exec (.amoorW rd rs1 rs2) s = trap ∧
      exec (.amominW rd rs1 rs2) s = trap ∧ exec (.amomaxW rd rs1 rs2) s = trap ∧
      exec (.amominuW rd rs1 rs2) s = trap ∧ exec (.amomaxuW rd rs1 rs2) s = trap) ∧
    (s.xlen = .rv64 → s.ux rs1 % 8 ≠ 0 →
      exec (.amoaddD rd rs1 rs2) s = trap ∧ exec (.amoswapD rd rs1 rs2) s = trap ∧
      exec (.amoandD rd rs1 rs2) s = trap ∧ exec (.amoorD rd rs1 rs2) s = trap ∧
      exec (.amominD rd rs1 rs2) s = trap ∧ exec (.amomaxD rd rs1 rs2) s = trap ∧
      exec (.amominuD rd rs1 rs2) s = trap ∧ exec (.amomaxuD rd rs1 rs2) s = trap)

/-- In every state, an instruction whose row does not exist in the variant, whose shift amount does not fit on
RV32, or whose rounding-mode field names no mode, raises IllegalInstruction with the pc and its word. The traps
of the 64-bit AMOs on RV32 and of an invalid mode where the result cannot depend on it are the spec's own
decisions D9 and D13 (log entry 26). -/
def Obligations.IllFormedTraps : Prop :=
  ∀ (s : State) (i : Instr), i.wellFormed s.xlen = false → TrapsIllegal i s

/-- The static fields 0 to 4 name the five modes in order whatever fsr holds; the field 7 takes the mode that
fsr.RM names in the same encoding; every instruction of the variant with a rounding-mode operand raises
IllegalInstruction when the field is 5 or 6, or is 7 while fsr.RM is 5, 6 or 7. Which instructions resolve the
mode is the spec's own decision D13 (log entry 26). -/
def Obligations.ModeTraps : Prop :=
  (∀ f : BitVec 3,
      resolveMode 0 f = some .rne ∧ resolveMode 1 f = some .rtz ∧ resolveMode 2 f = some .rdn ∧
      resolveMode 3 f = some .rup ∧ resolveMode 4 f = some .rmm ∧
      (f ≤ 4 → resolveMode 7 f = resolveMode f f)) ∧
    ∀ (s : State) (i : Instr) (rm : RmField), i.rm? = some rm → i.rowExists s.xlen = true →
      (rm = 5 ∨ rm = 6 ∨ (rm = 7 ∧ 5 ≤ s.fsrRM)) → TrapsIllegal i s

/-- When the rounding mode resolves, each of the ten instructions completes in every state: rd becomes a cell of
the format with the pattern that the operation delivers, its flags accrue, and nothing but rd, the flags and the
pc changes. The content of IEEE 754-2008 behind the operations is general knowledge and decision D38 (log entry
37); statements RoundDelivers, ExactResults and NaNResults say what the patterns are. That a register last
written in the other format is read as a free value, so that the instruction completes, is the model's choice
(log entry 11, D12). -/
def Obligations.FpArith : Prop :=
  ∀ (s : State) (rd rs1 rs2 : FReg) (rm : RmField) (m : RMode), resolveMode rm s.fsrRM = some m →
      CompletesF (.faddS rd rs1 rs2 rm) s .s rd (fadd .s m (s.getF .s rs1) (s.getF .s rs2)) ∧
      CompletesF (.fsubS rd rs1 rs2 rm) s .s rd (fsub .s m (s.getF .s rs1) (s.getF .s rs2)) ∧
      CompletesF (.fmulS rd rs1 rs2 rm) s .s rd (fmul .s m (s.getF .s rs1) (s.getF .s rs2)) ∧
      CompletesF (.fdivS rd rs1 rs2 rm) s .s rd (fdiv .s m (s.getF .s rs1) (s.getF .s rs2)) ∧
      CompletesF (.faddD rd rs1 rs2 rm) s .d rd (fadd .d m (s.getF .d rs1) (s.getF .d rs2)) ∧
      CompletesF (.fsubD rd rs1 rs2 rm) s .d rd (fsub .d m (s.getF .d rs1) (s.getF .d rs2)) ∧
      CompletesF (.fmulD rd rs1 rs2 rm) s .d rd (fmul .d m (s.getF .d rs1) (s.getF .d rs2)) ∧
      CompletesF (.fdivD rd rs1 rs2 rm) s .d rd (fdiv .d m (s.getF .d rs1) (s.getF .d rs2)) ∧
      CompletesF (.fsqrtS rd rs1 rm) s .s rd (fsqrt .s m (s.getF .s rs1)) ∧
      CompletesF (.fsqrtD rd rs1 rm) s .d rd (fsqrt .d m (s.getF .d rs1))

/-- When the rounding mode resolves, FMADD, FMSUB, FNMSUB and FNMADD in both formats complete in every state: rd
becomes a cell of the format with the once-rounded result of plus or minus the product plus or minus the addend,
its flags accrue, and nothing but rd, the flags and the pc changes. The one rounding of the negated product is
the spec's own decision D39 (log entry 38). That a register last written in the other format is read as a free
value, so that the instruction completes, is the model's choice (log entry 11, D12). -/
def Obligations.FpFused : Prop :=
  ∀ (s : State) (rd rs1 rs2 rs3 : FReg) (rm : RmField) (m : RMode), resolveMode rm s.fsrRM = some m →
      CompletesF (.fmaddS rd rs1 rs2 rs3 rm) s .s rd
        (fma .s m false false (s.getF .s rs1) (s.getF .s rs2) (s.getF .s rs3)) ∧
      CompletesF (.fmsubS rd rs1 rs2 rs3 rm) s .s rd
        (fma .s m false true (s.getF .s rs1) (s.getF .s rs2) (s.getF .s rs3)) ∧
      CompletesF (.fnmsubS rd rs1 rs2 rs3 rm) s .s rd
        (fma .s m true false (s.getF .s rs1) (s.getF .s rs2) (s.getF .s rs3)) ∧
      CompletesF (.fnmaddS rd rs1 rs2 rs3 rm) s .s rd
        (fma .s m true true (s.getF .s rs1) (s.getF .s rs2) (s.getF .s rs3)) ∧
      CompletesF (.fmaddD rd rs1 rs2 rs3 rm) s .d rd
        (fma .d m false false (s.getF .d rs1) (s.getF .d rs2) (s.getF .d rs3)) ∧
      CompletesF (.fmsubD rd rs1 rs2 rs3 rm) s .d rd
        (fma .d m false true (s.getF .d rs1) (s.getF .d rs2) (s.getF .d rs3)) ∧
      CompletesF (.fnmsubD rd rs1 rs2 rs3 rm) s .d rd
        (fma .d m true false (s.getF .d rs1) (s.getF .d rs2) (s.getF .d rs3)) ∧
      CompletesF (.fnmaddD rd rs1 rs2 rs3 rm) s .d rd
        (fma .d m true true (s.getF .d rs1) (s.getF .d rs2) (s.getF .d rs3))

/-- In every state FMIN and FMAX in both formats complete: rd becomes a cell with the delivered pattern, flags
accrue, nothing but rd, the flags and the pc changes. The first signaling NaN is delivered quieted, with NV; of
two quiet NaNs the first; of one quiet NaN and a number the number; of two values, infinities included, the
smaller or the larger as it stands with no flag, and of two equal values one of the operands with no flag, the
first where the signs agree. The quieted pattern and its NV are the spec's own decisions D19 and D38 (log
entries 36 and 37); which of two zeros of opposite sign is delivered is a free value (log entry 15). That a
register last written in the other format is read as a free value, so that the instruction completes, is the
model's choice (log entry 11, D12). -/
def Obligations.FpMinMax : Prop :=
  (∀ (s : State) (rd rs1 rs2 : FReg),
      CompletesF (.fminS rd rs1 rs2) s .s rd (fminmax .s false (s.getF .s rs1) (s.getF .s rs2)) ∧
      CompletesF (.fmaxS rd rs1 rs2) s .s rd (fminmax .s true (s.getF .s rs1) (s.getF .s rs2)) ∧
      CompletesF (.fminD rd rs1 rs2) s .d rd (fminmax .d false (s.getF .d rs1) (s.getF .d rs2)) ∧
      CompletesF (.fmaxD rd rs1 rs2) s .d rd (fminmax .d true (s.getF .d rs1) (s.getF .d rs2))) ∧
    ∀ (F : Fmt) (isMax : Bool) (a b : FBits),
      (unpack F a = .nan true → fminmax F isMax a b = (quieted F a, flagNV)) ∧
      (unpack F a ≠ .nan true → unpack F b = .nan true → fminmax F isMax a b = (quieted F b, flagNV)) ∧
      (unpack F a = .nan false → unpack F b = .nan false → fminmax F isMax a b = (a, flagNone)) ∧
      (unpack F a = .nan false → (unpack F b).isNaN = false → fminmax F isMax a b = (b, flagNone)) ∧
      ((unpack F a).isNaN = false → unpack F b = .nan false → fminmax F isMax a b = (a, flagNone)) ∧
      (ValueBelow F a b →
        fminmax F false a b = (a, flagNone) ∧ fminmax F false b a = (a, flagNone) ∧
        fminmax F true a b = (b, flagNone) ∧ fminmax F true b a = (b, flagNone)) ∧
      (ValueEqual F a b → (fminmax F isMax a b = (a, flagNone) ∨ fminmax F isMax a b = (b, flagNone)) ∧
        (signOf F a = signOf F b → fminmax F isMax a b = (a, flagNone))) ∧
      quieted .s a = a ||| 0x400000 ∧ quieted .d a = a ||| 0x8000000000000

/-- When the rounding mode resolves, FCVT.W and FCVT.WU from both formats complete in every state, and FCVT.L
and FCVT.LU on RV64: rd reads the conversion placed in XPRLEN bits (zero when rd is x0), its flags accrue, and
nothing but rd, the flags and the pc changes. A NaN or an infinity raises NV and no other flag; a finite number
is rounded by the mode to an integer, which is delivered with NX exactly when it is not the number itself where
it lies in the target range, and raises NV and no other flag where it does not. The ranges are those of 32 and
64 bits, signed and unsigned; an integer in range placed in rd reads as itself, in the low word for WU on RV64.
The placement of a W result on RV64 is the spec's own decision D14 (log entry 35); the integer of an invalid
conversion and the upper half of WU are free values (log entries 12 and 13). That a register last written in the
other format is read as a free value, so that the instruction completes, is the model's choice (log entry 11,
D12). The NV of a NaN, an infinity and an integer out of range, without NX, is the spec's own decisions D16 and
D38 (log entries 12 and 37). -/
def Obligations.FpToInt : Prop :=
  (∀ (s : State) (rd : XReg) (rs1 : FReg) (rm : RmField) (m : RMode), resolveMode rm s.fsrRM = some m →
      CompletesXFlags (.fcvtWS rd rs1 rm) s rd
        (placeInt s.xlen .s .w (toIntBits .s .w m (s.getF .s rs1)).1)
        (toIntBits .s .w m (s.getF .s rs1)).2 ∧
      CompletesXFlags (.fcvtWuS rd rs1 rm) s rd
        (placeInt s.xlen .s .wu (toIntBits .s .wu m (s.getF .s rs1)).1)
        (toIntBits .s .wu m (s.getF .s rs1)).2 ∧
      CompletesXFlags (.fcvtWD rd rs1 rm) s rd
        (placeInt s.xlen .d .w (toIntBits .d .w m (s.getF .d rs1)).1)
        (toIntBits .d .w m (s.getF .d rs1)).2 ∧
      CompletesXFlags (.fcvtWuD rd rs1 rm) s rd
        (placeInt s.xlen .d .wu (toIntBits .d .wu m (s.getF .d rs1)).1)
        (toIntBits .d .wu m (s.getF .d rs1)).2 ∧
      (s.xlen = .rv64 →
      CompletesXFlags (.fcvtLS rd rs1 rm) s rd
        (placeInt s.xlen .s .l (toIntBits .s .l m (s.getF .s rs1)).1)
        (toIntBits .s .l m (s.getF .s rs1)).2 ∧
      CompletesXFlags (.fcvtLuS rd rs1 rm) s rd
        (placeInt s.xlen .s .lu (toIntBits .s .lu m (s.getF .s rs1)).1)
        (toIntBits .s .lu m (s.getF .s rs1)).2 ∧
      CompletesXFlags (.fcvtLD rd rs1 rm) s rd
        (placeInt s.xlen .d .l (toIntBits .d .l m (s.getF .d rs1)).1)
        (toIntBits .d .l m (s.getF .d rs1)).2 ∧
      CompletesXFlags (.fcvtLuD rd rs1 rm) s rd
        (placeInt s.xlen .d .lu (toIntBits .d .lu m (s.getF .d rs1)).1)
        (toIntBits .d .lu m (s.getF .d rs1)).2)) ∧
    (∀ (F : Fmt) (I : IntFmt) (m : RMode) (a : FBits), (∀ neg k e, unpack F a ≠ .fin neg k e) →
      (toIntBits F I m a).2 = flagNV) ∧
    (∀ (F : Fmt) (I : IntFmt) (m : RMode) (a : FBits) (x : Rat) (k : Nat), denotes F a x →
      IsRounding m (decide (x < 0)) |x| k →
      let n : Int := if x < 0 then -k else k
      (intLo I ≤ n → n ≤ intHi I →
        toIntBits F I m a = (BitVec.ofInt 64 n, flagIf (decide ((n : Rat) ≠ x)) flagNX)) ∧
      (n < intLo I ∨ intHi I < n → (toIntBits F I m a).2 = flagNV)) ∧
    (intLo .w = -2 ^ 31 ∧ intHi .w = 2 ^ 31 - 1 ∧ intLo .wu = 0 ∧ intHi .wu = 2 ^ 32 - 1 ∧
      intLo .l = -2 ^ 63 ∧ intHi .l = 2 ^ 63 - 1 ∧ intLo .lu = 0 ∧ intHi .lu = 2 ^ 64 - 1) ∧
    ∀ (xl : Xlen) (F : Fmt) (I : IntFmt) (n : Int), intLo I ≤ n → n ≤ intHi I →
      (I = .w ∨ I = .l → (placeInt xl F I (BitVec.ofInt 64 n)).toInt = n) ∧
      (I = .wu → ((placeInt xl F I (BitVec.ofInt 64 n)).toNat : Int) % 2 ^ 32 = n) ∧
      (I = .wu ∧ xl = .rv32 ∨ I = .lu → ((placeInt xl F I (BitVec.ofInt 64 n)).toNat : Int) = n)

/-- When the rounding mode resolves, FCVT from W and WU to both formats completes in every state, and from L and
LU on RV64: rd becomes a cell of the format with the rounded integer, its flags accrue, and nothing but rd, the
flags and the pc changes. Integer zero gives +0 and no flag in every mode, and every other integer is rounded
once. The integer is the signed or unsigned low word of rs1 for W and WU, and on RV64 the signed or unsigned rs1
for L and LU. That W and WU read the low word on RV64 is the spec's own decision D15 (log entry 35). What
rounding delivers is general knowledge that the spec supplies (log entry 37). -/
def Obligations.FpFromInt : Prop :=
  (∀ (s : State) (rd : FReg) (rs1 : XReg) (rm : RmField) (m : RMode), resolveMode rm s.fsrRM = some m →
      CompletesF (.fcvtSW rd rs1 rm) s .s rd (fromInteger .s m (sourceInt .w (s.getX rs1))) ∧
      CompletesF (.fcvtSWu rd rs1 rm) s .s rd (fromInteger .s m (sourceInt .wu (s.getX rs1))) ∧
      CompletesF (.fcvtDW rd rs1 rm) s .d rd (fromInteger .d m (sourceInt .w (s.getX rs1))) ∧
      CompletesF (.fcvtDWu rd rs1 rm) s .d rd (fromInteger .d m (sourceInt .wu (s.getX rs1))) ∧
      (s.xlen = .rv64 →
      CompletesF (.fcvtSL rd rs1 rm) s .s rd (fromInteger .s m (sourceInt .l (s.getX rs1))) ∧
      CompletesF (.fcvtSLu rd rs1 rm) s .s rd (fromInteger .s m (sourceInt .lu (s.getX rs1))) ∧
      CompletesF (.fcvtDL rd rs1 rm) s .d rd (fromInteger .d m (sourceInt .l (s.getX rs1))) ∧
      CompletesF (.fcvtDLu rd rs1 rm) s .d rd (fromInteger .d m (sourceInt .lu (s.getX rs1))))) ∧
    (∀ (F : Fmt) (m : RMode), fromInteger F m 0 = (0, flagNone)) ∧
    (∀ (F : Fmt) (m : RMode) (n : Int), n ≠ 0 → RoundedOnce F m n (fromInteger F m n)) ∧
    ∀ (s : State) (r : XReg),
      sourceInt .w (s.getX r) = s.sxLow r ∧ sourceInt .wu (s.getX r) = s.uxLow r ∧
      (s.xlen = .rv64 → sourceInt .l (s.getX r) = s.sx r ∧ sourceInt .lu (s.getX r) = s.ux r)

/-- When the rounding mode resolves, FCVT.S.D and FCVT.D.S complete in every state: rd becomes a single or a
double cell with the converted pattern, flags accrue, nothing but rd, the flags and the pc changes. A single NaN
becomes the double NaN with its sign, its fraction on top and the quiet bit set; a double NaN the single NaN
with its sign, the top of its fraction and the quiet bit set; NV is raised exactly for a signaling NaN.
Infinities and zeros keep their sign with no flag; FCVT.S.D of another number is that number rounded once, and
FCVT.D.S of a number denotes that number with its sign and no flag. The kept sign and the NV of a signaling NaN
are the spec's own decisions D19 and D38 (log entries 36 and 37). That a register last written in the other
format is read as a free value, so that the instruction completes, is the model's choice (log entry 11, D12).
What rounding delivers is general knowledge that the spec supplies (log entry 37). -/
def Obligations.FpBetween : Prop :=
  (∀ (s : State) (rd rs1 : FReg) (rm : RmField) (m : RMode), resolveMode rm s.fsrRM = some m →
      CompletesF (.fcvtSD rd rs1 rm) s .s rd (fcvtSFromD m (s.getD rs1)) ∧
      CompletesF (.fcvtDS rd rs1 rm) s .d rd (fcvtDFromS m ((s.getS rs1).setWidth 64))) ∧
    ∀ (m : RMode) (sig : Bool),
      (∀ b : BitVec 32, unpack .s (b.setWidth 64) = .nan sig →
        fcvtDFromS m (b.setWidth 64) =
          ((b.extractLsb' 31 1 ++ 0x7FF#11 ++ ((b.extractLsb' 0 23 ++ 0#29) ||| 0x8000000000000#52) : BitVec 64),
            if sig then flagNV else flagNone)) ∧
      (∀ a n, unpack .d a = .inf n → fcvtSFromD m a = (if n then 0xFF800000 else 0x7F800000, flagNone)) ∧
      (∀ a n, unpack .s a = .inf n →
        fcvtDFromS m a = (if n then 0xFFF0000000000000 else 0x7FF0000000000000, flagNone)) ∧
      (∀ a x, denotes .d a x →
        if x = 0 then fcvtSFromD m a = (if signOf .d a then 0x80000000 else 0, flagNone)
        else RoundedOnce .s m x (fcvtSFromD m a)) ∧
      (∀ a x, denotes .s a x → denotes .d (fcvtDFromS m a).1 x ∧
        signOf .d (fcvtDFromS m a).1 = signOf .s a ∧ (fcvtDFromS m a).2 = flagNone) ∧
      (∀ b : BitVec 64, unpack .d b = .nan sig →
        fcvtSFromD m b =
          ((b.extractLsb' 63 1 ++ 0xFF#8 ++ (b.extractLsb' 29 23 ||| 0x400000#23) : BitVec 32).setWidth 64,
            if sig then flagNV else flagNone))

/-- In every state FSGNJ, FSGNJN and FSGNJX in both formats complete: rd becomes a cell with the bits of rs1
below the sign and the sign of rs2, its opposite, or the exclusive or of the two signs; no flag is set and
nothing but rd and the pc changes, NaNs included. That a register last written in the other format is read as a
free value, so that the instruction completes, is the model's choice (log entry 11, D12). -/
def Obligations.SignInject : Prop :=
  ∀ (s : State) (rd rs1 rs2 : FReg),
    let aS := s.getS rs1
    let bS := s.getS rs2
    let aD := s.getD rs1
    let bD := s.getD rs2
    (∃ t, exec (.fsgnjS rd rs1 rs2) s = .next t ∧ FFrame rd s t ∧ KeepsFsr s t ∧
        t.cellF rd = .s (bS.extractLsb' 31 1 ++ aS.extractLsb' 0 31 : BitVec 32)) ∧
    (∃ t, exec (.fsgnjnS rd rs1 rs2) s = .next t ∧ FFrame rd s t ∧ KeepsFsr s t ∧
        t.cellF rd = .s (~~~(bS.extractLsb' 31 1) ++ aS.extractLsb' 0 31 : BitVec 32)) ∧
    (∃ t, exec (.fsgnjxS rd rs1 rs2) s = .next t ∧ FFrame rd s t ∧ KeepsFsr s t ∧
        t.cellF rd = .s ((aS.extractLsb' 31 1 ^^^ bS.extractLsb' 31 1) ++ aS.extractLsb' 0 31 : BitVec 32)) ∧
    (∃ t, exec (.fsgnjD rd rs1 rs2) s = .next t ∧ FFrame rd s t ∧ KeepsFsr s t ∧
        t.cellF rd = .d (bD.extractLsb' 63 1 ++ aD.extractLsb' 0 63 : BitVec 64)) ∧
    (∃ t, exec (.fsgnjnD rd rs1 rs2) s = .next t ∧ FFrame rd s t ∧ KeepsFsr s t ∧
        t.cellF rd = .d (~~~(bD.extractLsb' 63 1) ++ aD.extractLsb' 0 63 : BitVec 64)) ∧
    (∃ t, exec (.fsgnjxD rd rs1 rs2) s = .next t ∧ FFrame rd s t ∧ KeepsFsr s t ∧
        t.cellF rd = .d ((aD.extractLsb' 63 1 ^^^ bD.extractLsb' 63 1) ++ aD.extractLsb' 0 63 : BitVec 64))

/-- In every state MFTX.S completes with rd reading the single pattern of rs2 as a signed number and MXTF.S
completes with rd a single cell of the low word of rs1; on RV64 MFTX.D and MXTF.D do so for doubles, on RV32
they raise IllegalInstruction; no flag is set and nothing but rd and the pc changes. That a register last
written in the other format is read as a free value, so that the instruction completes, is the model's choice
(log entry 11, D12). -/
def Obligations.Moves : Prop :=
  ∀ (s : State) (rx r : XReg) (rf f : FReg),
      CompletesX (.mftxS rx f) s rx (s.getS f).toInt ∧
      (∃ t, exec (.mxtfS rf r) s = .next t ∧ FFrame rf s t ∧ KeepsFsr s t ∧
        t.cellF rf = .s (BitVec.ofNat 32 (s.ux r))) ∧
      (s.xlen = .rv64 →
        CompletesX (.mftxD rx f) s rx (s.getD f).toNat ∧
        ∃ t, exec (.mxtfD rf r) s = .next t ∧ FFrame rf s t ∧ KeepsFsr s t ∧
          t.cellF rf = .d (BitVec.ofNat 64 (s.ux r))) ∧
      (s.xlen = .rv32 → TrapsIllegal (.mftxD rx f) s ∧ TrapsIllegal (.mxtfD rf r) s)

/-- In every state MFFSR completes with rd reading fsr, zero above bit 7, and nothing else but the pc changed;
MTFSR completes with rd reading the old fsr and fsr reading the low 8 bits of the old rs1, zero above, also when
rd is rs1, and nothing else but the pc changed. That bits 31:8 read as zero and ignore writes is the spec's own
decision D11 (log entry 30). -/
def Obligations.FsrAccess : Prop :=
  ∀ (s : State) (rd rs1 : XReg),
    CompletesX (.mffsr rd) s rd (s.fsr.toNat % 2 ^ 8 : Nat) ∧
    ∃ t, exec (.mtfsr rd rs1) s = .next t ∧ KeepsXBut rd s t ∧
      t.ux rd = (if rd = 0#5 then 0 else s.fsr.toNat % 2 ^ 8) ∧
      t.fsrValue.toNat = s.ux rs1 % 2 ^ 8 ∧ t.fsrRM = BitVec.ofNat 3 (s.ux rs1 / 2 ^ 5) ∧
      t.fsrFlags = BitVec.ofNat 5 (s.ux rs1) ∧
      KeepsF s t ∧ KeepsMem s t ∧ KeepsFetch s t ∧ KeepsRest s t ∧ InSequence s t

/-- In every state the six comparisons complete: rd reads 1 or 0, flags accrue, and nothing but rd, the flags
and the pc changes. On finite numbers the answer is that of the rationals they denote, with no flag; infinities
are below and above every number and equal to themselves; with a NaN it is false, FEQ raising NV only for a
signaling NaN and FLT and FLE for any. The values 1 and 0 and the treatment of NaNs are the spec's own decisions
D40 and D20 (log entry 36). That a register last written in the other format is read as a free value, so that
the instruction completes, is the model's choice (log entry 11, D12). -/
def Obligations.Compares : Prop :=
  (∀ (s : State) (rd : XReg) (rs1 rs2 : FReg),
      CompletesXFlags (.feqS rd rs1 rs2) s rd
        (if (fcompare .s .eq (s.getF .s rs1) (s.getF .s rs2)).1 then 1 else 0)
        (fcompare .s .eq (s.getF .s rs1) (s.getF .s rs2)).2 ∧
      CompletesXFlags (.fltS rd rs1 rs2) s rd
        (if (fcompare .s .lt (s.getF .s rs1) (s.getF .s rs2)).1 then 1 else 0)
        (fcompare .s .lt (s.getF .s rs1) (s.getF .s rs2)).2 ∧
      CompletesXFlags (.fleS rd rs1 rs2) s rd
        (if (fcompare .s .le (s.getF .s rs1) (s.getF .s rs2)).1 then 1 else 0)
        (fcompare .s .le (s.getF .s rs1) (s.getF .s rs2)).2 ∧
      CompletesXFlags (.feqD rd rs1 rs2) s rd
        (if (fcompare .d .eq (s.getF .d rs1) (s.getF .d rs2)).1 then 1 else 0)
        (fcompare .d .eq (s.getF .d rs1) (s.getF .d rs2)).2 ∧
      CompletesXFlags (.fltD rd rs1 rs2) s rd
        (if (fcompare .d .lt (s.getF .d rs1) (s.getF .d rs2)).1 then 1 else 0)
        (fcompare .d .lt (s.getF .d rs1) (s.getF .d rs2)).2 ∧
      CompletesXFlags (.fleD rd rs1 rs2) s rd
        (if (fcompare .d .le (s.getF .d rs1) (s.getF .d rs2)).1 then 1 else 0)
        (fcompare .d .le (s.getF .d rs1) (s.getF .d rs2)).2) ∧
    ∀ (F : Fmt) (a b : FBits),
      (∀ x y, denotes F a x → denotes F b y →
        fcompare F .eq a b = (decide (x = y), flagNone) ∧ fcompare F .lt a b = (decide (x < y), flagNone) ∧
        fcompare F .le a b = (decide (x ≤ y), flagNone)) ∧
      (ValueBelow F a b →
        fcompare F .eq a b = (false, flagNone) ∧ fcompare F .eq b a = (false, flagNone) ∧
        fcompare F .lt a b = (true, flagNone) ∧ fcompare F .lt b a = (false, flagNone) ∧
        fcompare F .le a b = (true, flagNone) ∧ fcompare F .le b a = (false, flagNone)) ∧
      (ValueEqual F a b →
        fcompare F .eq a b = (true, flagNone) ∧ fcompare F .lt a b = (false, flagNone) ∧
        fcompare F .le a b = (true, flagNone)) ∧
      ((unpack F a).isNaN = true ∨ (unpack F b).isNaN = true →
        fcompare F .lt a b = (false, flagNV) ∧ fcompare F .le a b = (false, flagNV) ∧
        fcompare F .eq a b =
          (false, if unpack F a = .nan true ∨ unpack F b = .nan true then flagNV else flagNone))

/-- In every state RDCYCLE, RDTIME and RDINSTRET complete: rd reads the cycle count, the real-time count or the
count of instructions retired before this one, modulo 2^XPRLEN (zero when rd is x0), and nothing but rd and the
pc changes. That RDINSTRET does not count itself is the spec's own decision D23 (log entry 32); how the other
two counts advance is free (log entry 17). -/
def Obligations.Counters : Prop :=
  ∀ (s : State) (rd : XReg),
    CompletesX (.rdcycle rd) s rd s.cycle ∧ CompletesX (.rdtime rd) s rd s.time ∧
    CompletesX (.rdinstret rd) s rd s.instret

/-- Every execution of SYSCALL raises Syscall and every execution of BREAK raises Breakpoint, each with the pc
of the instruction. That the request is a trap outcome which leaves the state alone is the spec's own decision
D24 (log entry 23). -/
def Obligations.EnvCalls : Prop :=
  ∀ (s : State), exec .syscall s = .fault (.syscall s.pcVal) ∧ exec .brk s = .fault (.breakpoint s.pcVal)

/-- Under an environment, a step that completes is that step; a step that traps stops with that trap when the
environment answers none, and otherwise goes on from the state the environment answers to the trap and to the
state before the step, with the parameters as they were, no counter fallen and the draw counter moved on. So
whatever the environment answers, XPRLEN, the byte order and MEM_VALID are constant over a run and no counter
falls. The environment's part is the spec's own decision D4; that a counter never falls across a trap and that
the draw counter moves on are the model's choices (log entries 22 and 10), and a move to another processor is
out (log entry 24). -/
def Obligations.EnvResumes : Prop :=
  ∀ (env : EnvTrap) (s : State),
    (∀ t, step s = .next t → stepUnder env s = .next t) ∧
    (∀ e, step s = .fault e → env e s = none → stepUnder env s = .fault e) ∧
    (∀ e t, step s = .fault e → env e s = some t →
      stepUnder env s = .next { t with
        params := s.params
        cycle := max s.cycle t.cycle
        time := max s.time t.time
        instret := max s.instret t.instret
        draws := s.draws + 1 }) ∧
    ∀ t, stepUnder env s = .next t →
      t.params = s.params ∧ s.cycle ≤ t.cycle ∧ s.time ≤ t.time ∧ s.instret ≤ t.instret ∧ t.draws = s.draws + 1

/-- From every state in which memory is in canonical form within the address space, x0 holds zero, registers and
pc are XPRLEN-bit values, fsr[31:8] is zero and recorded parcels are even addresses of the address space, every
completed step leads to such a state. The invariant is about the model's representation (log entry 42);
fsr[31:8] = 0 is the spec's own decision D11 (log entry 30). -/
def Obligations.StepKeepsInv : Prop :=
  ∀ (s t : State), Inv s → step s = .next t → Inv t

/-- The invariant of the machine holds of the state after reset. The reset values of the pc and of the registers
are the model's choices (log entries 2 to 7). -/
def Obligations.ResetInv : Prop :=
  Inv State.reset

/-- For every instruction other than MTFSR and every state, when it completes every accrued flag that was set is
still set and fsr.RM is as it was. -/
def Obligations.FlagsSticky : Prop :=
  ∀ (i : Instr) (s t : State), (∀ rd rs1, i ≠ .mtfsr rd rs1) → exec i s = .next t →
    t.fsrFlags &&& s.fsrFlags = s.fsrFlags ∧ t.fsrRM = s.fsrRM

/-- For every instruction that is neither a store nor an AMO and every state, when it completes memory is as it
was, byte for byte. -/
def Obligations.OnlyStoresWrite : Prop :=
  ∀ (i : Instr) (s t : State), writesMemory i = false → exec i s = .next t →
    t.mem = s.mem ∧ ∀ a, t.readByte a = s.readByte a

/-- For every instruction other than J, JAL, the three JALR and the branches, and every state, when it completes
the pc is the address of the following instruction modulo 2^XPRLEN. The wrap of the pc is the spec's own reading
D5 (log entry 27). -/
def Obligations.SequentialPc : Prop :=
  ∀ (i : Instr) (s t : State), transfersControl i = false → exec i s = .next t → InSequence s t

/-- For every completed step the count of retired instructions grows by one, the cycle and real-time counts do
not fall, and XPRLEN, the byte order and MEM_VALID are as they were; and every step completes or faults, none
refuses. That a completed step counts one and that the other counts never fall are the spec's own decision D23
(log entries 17 and 32). That no instruction refuses is the model's choice (log entry 45); that the parameters
are constant is decisions D1, D2 and D7 (log entry 1); that the cycle count never falls leaves out a move to
another processor, U28 (log entry 24). -/
def Obligations.StepCounts : Prop :=
  (∀ (s t : State), step s = .next t →
      t.instret = s.instret + 1 ∧ s.cycle ≤ t.cycle ∧ s.time ≤ t.time ∧ t.params = s.params) ∧
    ∀ (s : State) (r : Refusal), step s ≠ .refused r

/-- For every mode, sign and fraction n/d with d not zero, the rounded magnitude is a neighbour of the fraction
(the fraction itself when it is whole): the nearest with ties to even or to the larger magnitude, the one toward
zero, toward minus or toward plus infinity; and the inexact mark is set exactly when the fraction is not whole.
The tie and direction details are general knowledge that the spec supplies (log entry 37). -/
def Obligations.RoundingModes : Prop :=
  ∀ (m : RMode) (neg : Bool) (n d : Nat), 0 < d →
    IsRounding m neg ((n : Rat) / d) (roundUnits m neg n d).1 ∧
    ((roundUnits m neg n d).2 = false ↔ ((roundUnits m neg n d).1 : Rat) = (n : Rat) / d)

/-- For every format, mode and non-zero exact number with 2^E the power of two at or below its magnitude: with u
the magnitude rounded to p significant bits, when u reaches 2^(emax+1) the result is the overflow result of the
mode and sign with OF and NX: infinity for the two nearest modes, the largest finite number toward zero, and in
the directed modes infinity on their own side and the largest finite number on the other; else from 2^emin on it
denotes u with NX exactly when inexact; else it denotes the magnitude rounded to a multiple of 2^(emin−t) with
its sign, NX when inexact, and UF when inexact and tiny (u below 2^emin, or tininess detected before rounding).
The procedure is general knowledge that the spec supplies (log entry 37) and when tininess is detected is a free
value (log entry 14). -/
def Obligations.RoundDelivers : Prop :=
  (∀ (F : Fmt) (m : RMode) (neg : Bool) (num den : Nat) (e E : Int), 0 < num → 0 < den →
    let r : Rat := (num : Rat) / den * (2 : Rat) ^ e
    let ulp : Rat := (2 : Rat) ^ (E - fracBits F)
    let tiniest : Rat := (2 : Rat) ^ (expMin F - fracBits F)
    let res := roundTo F m neg num den e
    (2 : Rat) ^ E ≤ r → r < (2 : Rat) ^ (E + 1) →
    ∃ k, IsRounding m neg (r / ulp) k ∧
      ((2 : Rat) ^ (expMax F + 1) ≤ k * ulp → res = (overflowResult F m neg, flagOF ||| flagNX)) ∧
      (k * ulp < (2 : Rat) ^ (expMax F + 1) → (2 : Rat) ^ expMin F ≤ r →
        denotes F res.1 (signedRat neg (k * ulp)) ∧ res.2 = flagIf (decide (k * ulp ≠ r)) flagNX) ∧
      (r < (2 : Rat) ^ expMin F →
        ∃ v, IsRounding m neg (r / tiniest) v ∧ denotes F res.1 (signedRat neg (v * tiniest)) ∧
          signOf F res.1 = neg ∧
          res.2 = flagIf (decide (v * tiniest ≠ r)) flagNX |||
            flagIf (decide (v * tiniest ≠ r) &&
              (decide (k * ulp < (2 : Rat) ^ expMin F) || Config.tinyBeforeRounding)) flagUF)) ∧
    ∀ neg : Bool,
      (∀ m, m = .rne ∨ m = .rmm ∨ m = (if neg then .rdn else .rup) →
        overflowResult .s m neg = (if neg then 0xFF800000 else 0x7F800000) ∧
        overflowResult .d m neg = if neg then 0xFFF0000000000000 else 0x7FF0000000000000) ∧
      ∀ m, m = .rtz ∨ m = (if neg then .rup else .rdn) →
        overflowResult .s m neg = (if neg then 0xFF7FFFFF else 0x7F7FFFFF) ∧
        overflowResult .d m neg = if neg then 0xFFEFFFFFFFFFFFFF else 0x7FEFFFFFFFFFFFFF

/-- For every format and mode and operands that denote rationals. A sum, difference, product, quotient or fused
multiply-add that is not zero is its exact value rounded once, and a square root is the pattern whose square
brackets the operand as the mode asks, with NX exactly when it is not the root. An exact zero has the exclusive
or of the signs in products and quotients, and the sign that the addends share, else + but − in RDN, in sums,
and the root of a zero is that zero. A non-zero number by zero is the infinity of the exclusive or of the signs
with DZ; zero by zero and the root of a number below zero are the canonical NaN with NV. A non-zero exact result
that a pattern denotes is that pattern with no flag. It rests on the content of IEEE 754-2008 that the spec
supplies (log entry 37). That zero signs and DZ are as stated is part of it (D38), and the rounding of the
negated product is D39 (log entry 38). -/
def Obligations.ExactResults : Prop :=
  ∀ (F : Fmt) (m : RMode) (a b c : FBits) (x y z : Rat), denotes F a x → denotes F b y → denotes F c z →
    let sa := signOf F a
    let sb := signOf F b
    let sc := signOf F c
    (if x + y = 0 then fadd F m a b = (zeroOf F (exactZeroSign m sa sb), flagNone)
      else RoundedOnce F m (x + y) (fadd F m a b)) ∧
    (if x - y = 0 then fsub F m a b = (zeroOf F (exactZeroSign m sa (!sb)), flagNone)
      else RoundedOnce F m (x - y) (fsub F m a b)) ∧
    (if x * y = 0 then fmul F m a b = (zeroOf F (sa ^^ sb), flagNone)
      else RoundedOnce F m (x * y) (fmul F m a b)) ∧
    (if y = 0 then
        fdiv F m a b = if x = 0 then (canonicalNaN F, flagNV) else (infinityOf F (sa ^^ sb), flagDZ)
      else if x = 0 then fdiv F m a b = (zeroOf F (sa ^^ sb), flagNone)
      else RoundedOnce F m (x / y) (fdiv F m a b)) ∧
    (∀ np na : Bool, let r := signedRat np (x * y) + signedRat na z
      if r = 0 then
        fma F m np na a b c = (zeroOf F (exactZeroSign m (sa ^^ sb ^^ np) (sc ^^ na)), flagNone)
      else RoundedOnce F m r (fma F m np na a b c)) ∧
    (x = 0 → fsqrt F m a = (zeroOf F sa, flagNone)) ∧
    (x < 0 → fsqrt F m a = (canonicalNaN F, flagNV)) ∧
    (∀ E : Int, (2 : Rat) ^ (2 * E) ≤ x → x < (2 : Rat) ^ (2 * E + 2) →
      let ulp : Rat := (2 : Rat) ^ (E - fracBits F)
      ∃ k : Nat, IsRootRounding m x ulp k ∧ denotes F (fsqrt F m a).1 (k * ulp) ∧
        (fsqrt F m a).2 = flagIf (decide ((k * ulp) ^ 2 ≠ x)) flagNX) ∧
    ∀ (r : FBits) (q : Rat), denotes F r q → q ≠ 0 →
      (x + y = q → fadd F m a b = (r, flagNone)) ∧ (x - y = q → fsub F m a b = (r, flagNone)) ∧
      (x * y = q → fmul F m a b = (r, flagNone)) ∧ (y ≠ 0 → x / y = q → fdiv F m a b = (r, flagNone)) ∧
      (0 < q → q * q = x → fsqrt F m a = (r, flagNone)) ∧
      (∀ np na : Bool, signedRat np (x * y) + signedRat na z = q → fma F m np na a b c = (r, flagNone))

/-- For FADD, FSUB, FMUL, FDIV, FSQRT and the fused forms in every format and mode: the first signaling operand
is delivered quieted with NV, else the first quiet operand as it is with no flag, save that NV is open where a
fused product is zero times infinity. Operands with an infinity and no NaN give the infinity or zero that the
exact result is, with its sign and no flag, or the canonical NaN with NV where the operation is invalid:
infinities of opposite sign added, zero times infinity, infinity by infinity, zero by zero, the root of a number
below zero. The patterns of the canonical NaN, the quiet bit, the infinities and the zeros are spelled out. The
kept payload and the list of invalid operations are the spec's own decisions D19 and D38 (log entries 36 and
37). The NV of a fused zero times infinity with a quiet addend is a free value (log entry 16). -/
def Obligations.NaNResults : Prop :=
  (canonicalNaN .s = 0x7FFFFFFF ∧ canonicalNaN .d = 0x7FFFFFFFFFFFFFFF ∧
      (∀ b, quieted .s b = b ||| 0x400000 ∧ quieted .d b = b ||| 0x8000000000000) ∧
      (∀ n : Bool, infinityOf .s n = (if n then 0xFF800000 else 0x7F800000) ∧
        infinityOf .d n = (if n then 0xFFF0000000000000 else 0x7FF0000000000000) ∧
        zeroOf .s n = (if n then 0x80000000 else 0) ∧ zeroOf .d n = if n then 0x8000000000000000 else 0)) ∧
    (∀ (F : Fmt) (m : RMode) (a b : FBits) (op : Fmt → RMode → FBits → FBits → FBits × FlagSet),
      op = fadd ∨ op = fsub ∨ op = fmul ∨ op = fdiv →
      (unpack F a = .nan true → op F m a b = (quieted F a, flagNV)) ∧
      (unpack F a ≠ .nan true → unpack F b = .nan true → op F m a b = (quieted F b, flagNV)) ∧
      (unpack F a = .nan false → unpack F b ≠ .nan true → op F m a b = (a, flagNone)) ∧
      ((unpack F a).isNaN = false → unpack F b = .nan false → op F m a b = (b, flagNone))) ∧
    (∀ (F : Fmt) (m : RMode) (a : FBits),
      (unpack F a = .nan true → fsqrt F m a = (quieted F a, flagNV)) ∧
      (unpack F a = .nan false → fsqrt F m a = (a, flagNone)) ∧
      (unpack F a = .inf false → fsqrt F m a = (infinityOf F false, flagNone)) ∧
      (unpack F a = .inf true → fsqrt F m a = (canonicalNaN F, flagNV)) ∧
      ∀ x, denotes F a x → x < 0 → fsqrt F m a = (canonicalNaN F, flagNV)) ∧
    (∀ (F : Fmt) (m : RMode) (a b : FBits) (n n' : Bool) (k : Nat) (e e' : Int),
      (unpack F a = .inf n → unpack F b = .inf (!n) →
        fadd F m a b = (canonicalNaN F, flagNV) ∧ fsub F m a b = (infinityOf F n, flagNone)) ∧
      (unpack F a = .inf n → unpack F b = .inf n →
        fadd F m a b = (infinityOf F n, flagNone) ∧ fsub F m a b = (canonicalNaN F, flagNV)) ∧
      (unpack F a = .inf n → unpack F b = .fin n' k e →
        fadd F m a b = (infinityOf F n, flagNone) ∧ fadd F m b a = (infinityOf F n, flagNone) ∧
        fsub F m a b = (infinityOf F n, flagNone) ∧ fsub F m b a = (infinityOf F (!n), flagNone) ∧
        fdiv F m a b = (infinityOf F (n ^^ n'), flagNone) ∧ fdiv F m b a = (zeroOf F (n ^^ n'), flagNone)) ∧
      (unpack F a = .inf n → unpack F b = .fin n' 0 e →
        fmul F m a b = (canonicalNaN F, flagNV) ∧ fmul F m b a = (canonicalNaN F, flagNV)) ∧
      (unpack F a = .inf n → unpack F b = .fin n' k e → k ≠ 0 →
        fmul F m a b = (infinityOf F (n ^^ n'), flagNone) ∧ fmul F m b a = (infinityOf F (n ^^ n'), flagNone)) ∧
      (unpack F a = .inf n → unpack F b = .inf n' →
        fmul F m a b = (infinityOf F (n ^^ n'), flagNone) ∧ fdiv F m a b = (canonicalNaN F, flagNV)) ∧
      (unpack F a = .fin n 0 e → unpack F b = .fin n' 0 e' → fdiv F m a b = (canonicalNaN F, flagNV))) ∧
    ∀ (F : Fmt) (m : RMode) (np na : Bool) (a b c : FBits),
      let res := fma F m np na a b c
      let zeroTimesInf := ∃ n n' e, unpack F a = .inf n ∧ unpack F b = .fin n' 0 e ∨
        unpack F b = .inf n ∧ unpack F a = .fin n' 0 e
      (unpack F a = .nan true → res = (quieted F a, flagNV)) ∧
      (unpack F a ≠ .nan true → unpack F b = .nan true → res = (quieted F b, flagNV)) ∧
      (unpack F a ≠ .nan true → unpack F b ≠ .nan true → unpack F c = .nan true → res = (quieted F c, flagNV)) ∧
      (unpack F a = .nan false → unpack F b ≠ .nan true → unpack F c ≠ .nan true → res = (a, flagNone)) ∧
      ((unpack F a).isNaN = false → unpack F b = .nan false → unpack F c ≠ .nan true → res = (b, flagNone)) ∧
      ((unpack F a).isNaN = false → (unpack F b).isNaN = false → unpack F c = .nan false →
        res.1 = c ∧ (res.2 = flagNone ∨ res.2 = flagNV) ∧ (¬ zeroTimesInf → res.2 = flagNone)) ∧
      ((unpack F c).isNaN = false → zeroTimesInf → res = (canonicalNaN F, flagNV)) ∧
      (∀ n n' : Bool,
        (unpack F a = .inf n ∧ (unpack F b = .inf n' ∨ ∃ k e, k ≠ 0 ∧ unpack F b = .fin n' k e) ∨
          unpack F b = .inf n ∧ (unpack F a = .inf n' ∨ ∃ k e, k ≠ 0 ∧ unpack F a = .fin n' k e)) →
        (∀ nc, unpack F c = .inf nc →
          res = if (nc ^^ na) = (n ^^ n' ^^ np) then (infinityOf F (n ^^ n' ^^ np), flagNone)
            else (canonicalNaN F, flagNV)) ∧
        ∀ nc k e, unpack F c = .fin nc k e → res = (infinityOf F (n ^^ n' ^^ np), flagNone)) ∧
      ∀ n n' nc k k' e e', unpack F a = .fin n k e → unpack F b = .fin n' k' e' → unpack F c = .inf nc →
        res = (infinityOf F (nc ^^ na), flagNone)

/-- In every mode: FCVT.D.S of a single that denotes a rational delivers a double that denotes it, with no flag;
the conversion of every signed or unsigned 32-bit integer to double delivers a double that denotes it, with no
flag; and a pattern that denotes an integer within the range of the target converts to that integer with no
flag. It rests on the content of IEEE 754-2008 that the spec supplies (log entry 37). -/
def Obligations.ExactConversions : Prop :=
  ∀ (m : RMode),
    (∀ (a : FBits) (x : Rat), denotes .s a x →
      denotes .d (fcvtDFromS m a).1 x ∧ (fcvtDFromS m a).2 = flagNone) ∧
    (∀ n : Int, -2 ^ 31 ≤ n → n < 2 ^ 32 →
      denotes .d (fromInteger .d m n).1 n ∧ (fromInteger .d m n).2 = flagNone) ∧
    (∀ (F : Fmt) (I : IntFmt) (a : FBits) (n : Int), denotes F a n → intLo I ≤ n → n ≤ intHi I →
      toIntBits F I m a = (BitVec.ofInt 64 n, flagNone))
end

