-- ==== Sys2Proof/Laws/Memory.lean ====
section
/-! SUPPORT. The laws of memory: a read after a write, and that every memory operation keeps the canonical form. -/
namespace Sys2Proof.Machine

theorem Memory.read_erase (m : List Host.Cell) (a b : Nat) :
    Memory.read (Memory.erase m a) b = if b = a then Memory.unlisted else Memory.read m b := by
  induction m with
  | nil => simp [Memory.erase, Memory.read]
  | cons c m ih =>
    simp only [Memory.erase, List.filter_cons] at ih ⊢
    by_cases hc : c.1 = a
    · simp only [hc, bne_self_eq_false, Bool.false_eq_true, if_false, ih, Memory.read]
      grind
    · simp only [bne_iff_ne, ne_eq, hc, not_false_eq_true, if_true, Memory.read, ih]
      grind

theorem Memory.not_mem_erase {m : List Host.Cell} {a : Nat} {c : Host.Cell} (h : c ∈ Memory.erase m a) : c.1 ≠ a := by
  simpa using (List.mem_filter.mp h).2

theorem Memory.read_insert (m : List Host.Cell) (a : Nat) (v : Byte) (h : ∀ c ∈ m, c.1 ≠ a) (b : Nat) :
    Memory.read (Memory.insert (a, v) m) b = if b = a then v else Memory.read m b := by
  induction m with
  | nil => simp [Memory.insert, Memory.read, eq_comm]
  | cons c m ih =>
    have hc := h c (by simp)
    have ih := ih fun d hd => h d (by simp [hd])
    simp only [Memory.insert]
    split
    · simp only [Memory.read]; grind
    · simp only [Memory.read, ih]; grind

/-- A read after a write: the written byte at its address, the old byte everywhere else. -/
theorem Memory.read_write (m : List Host.Cell) (a : Nat) (v : Byte) (b : Nat) :
    Memory.read (Memory.write m a v) b = if b = a then v else Memory.read m b := by
  unfold Memory.write
  split
  · rename_i hv; rw [Memory.read_erase, hv]
  · rw [Memory.read_insert _ _ _ fun c hc => Memory.not_mem_erase hc, Memory.read_erase]; grind

theorem Memory.mem_insert {m : List Host.Cell} {c d : Host.Cell} (h : d ∈ Memory.insert c m) : d = c ∨ d ∈ m := by
  induction m with
  | nil => simpa [Memory.insert] using h
  | cons e m ih => simp only [Memory.insert] at h; split at h <;> grind

theorem Memory.wf_erase {m : List Host.Cell} (h : Memory.wf m) (a : Nat) : Memory.wf (Memory.erase m a) :=
  ⟨h.1.filter _, fun c hc => h.2 c (List.mem_filter.mp hc).1⟩

theorem Memory.wf_insert {m : List Host.Cell} (h : Memory.wf m) {c : Host.Cell} (hc : c.2 ≠ Memory.unlisted)
    (hm : ∀ d ∈ m, d.1 ≠ c.1) : Memory.wf (Memory.insert c m) := by
  refine ⟨?_, fun d hd => ?_⟩
  · induction m with
    | nil => simp [Memory.insert]
    | cons e m ih =>
      have hp := List.pairwise_cons.mp h.1
      simp only [Memory.insert]
      split
      · rename_i hlt
        refine List.pairwise_cons.mpr ⟨fun d hd => ?_, h.1⟩
        rcases List.mem_cons.mp hd with rfl | hd
        · exact hlt
        · exact Nat.lt_trans hlt (hp.1 d hd)
      · rename_i hlt
        have ih := ih ⟨hp.2, fun d hd => h.2 d (by simp [hd])⟩ fun d hd => hm d (by simp [hd])
        refine List.pairwise_cons.mpr ⟨fun d hd => ?_, ih⟩
        have he := hm e (by simp)
        rcases Memory.mem_insert hd with rfl | hd
        · omega
        · exact hp.1 d hd
  · rcases Memory.mem_insert hd with rfl | hd
    · exact hc
    · exact h.2 d hd

/-- A write keeps the canonical form. -/
theorem Memory.wf_write {m : List Host.Cell} (h : Memory.wf m) (a : Nat) (v : Byte) :
    Memory.wf (Memory.write m a v) := by
  unfold Memory.write
  split
  · exact Memory.wf_erase h a
  · rename_i hv
    exact Memory.wf_insert (Memory.wf_erase h a) hv fun d hd => Memory.not_mem_erase hd

/-- A sequence of writes keeps the canonical form. -/
theorem Memory.wf_writeAll {m : List Host.Cell} (h : Memory.wf m) (cs : List Host.Cell) :
    Memory.wf (Memory.writeAll m cs) := by
  induction cs generalizing m with
  | nil => exact h
  | cons c cs ih => exact ih (Memory.wf_write h c.1 c.2)

theorem Memory.mem_write {m : List Host.Cell} {a : Nat} {v : Byte} {d : Host.Cell} (h : d ∈ Memory.write m a v) :
    d.1 = a ∨ d ∈ m := by
  unfold Memory.write at h
  split at h
  · exact .inr (List.mem_filter.mp h).1
  · rcases Memory.mem_insert h with rfl | h
    · exact .inl rfl
    · exact .inr (List.mem_filter.mp h).1

/-- After a sequence of writes a cell is an old one or has an address that was written. -/
theorem Memory.mem_writeAll {m : List Host.Cell} {cs : List Host.Cell} {d : Host.Cell}
    (h : d ∈ Memory.writeAll m cs) : d.1 ∈ cs.map Prod.fst ∨ d ∈ m := by
  induction cs generalizing m with
  | nil => exact .inr h
  | cons c cs ih =>
    rcases ih h with h | h
    · exact .inl (by simp [h])
    · rcases Memory.mem_write h with h | h
      · exact .inl (by simp [h])
      · exact .inr h

/-- A sequence of writes leaves every address it does not name alone. -/
theorem Memory.read_writeAll_of_not_mem {m : List Host.Cell} {cs : List Host.Cell} {a : Nat}
    (h : a ∉ cs.map Prod.fst) : Memory.read (Memory.writeAll m cs) a = Memory.read m a := by
  induction cs generalizing m with
  | nil => rfl
  | cons c cs ih =>
    simp only [List.map_cons, List.mem_cons, not_or] at h
    rw [Memory.writeAll, ih h.2, Memory.read_write, if_neg h.1]

/-- A sequence of writes to different addresses puts each byte at its address. -/
theorem Memory.read_writeAll_of_mem {m : List Host.Cell} {cs : List Host.Cell} (hd : (cs.map Prod.fst).Nodup)
    {a : Nat} {v : Byte} (h : (a, v) ∈ cs) : Memory.read (Memory.writeAll m cs) a = v := by
  induction cs generalizing m with
  | nil => simp at h
  | cons c cs ih =>
    simp only [List.map_cons, List.nodup_cons] at hd
    rw [Memory.writeAll]
    rcases List.mem_cons.mp h with rfl | h
    · rw [Memory.read_writeAll_of_not_mem hd.1, Memory.read_write, if_pos rfl]
    · exact ih hd.2 h

theorem length_leBytes (n : Nat) (v : Word) : (leBytes n v).length = n := by
  induction n generalizing v with
  | zero => rfl
  | succ n ih => simp [leBytes, ih]

theorem length_bytesOfValue (e : Endian) (n : Nat) (v : Word) : (bytesOfValue e n v).length = n := by
  cases e <;> simp [bytesOfValue, length_leBytes]

theorem length_accessAddrs (xl : Xlen) (addr : Word) (n : Nat) : (accessAddrs xl addr n).length = n := by
  simp [accessAddrs]

/-- Every byte address of an access lies in the address space. -/
theorem accessAddrs_lt {xl : Xlen} {addr : Word} {n a : Nat} (h : a ∈ accessAddrs xl addr n) : a < 2 ^ xl.bits := by
  simp only [accessAddrs, List.mem_map] at h
  obtain ⟨i, -, rfl⟩ := h
  exact Nat.mod_lt _ (by positivity)

/-- The bytes of an access of at most eight bytes have different addresses. -/
theorem accessAddrs_nodup (xl : Xlen) (addr : Word) {n : Nat} (hn : n ≤ 8) : (accessAddrs xl addr n).Nodup := by
  refine (List.nodup_range).map_on fun i hi j hj h => ?_
  simp only [List.mem_range] at hi hj
  cases xl <;> simp only [Xlen.bits] at h <;> omega

/-- An access is admitted exactly when each of its bytes is. -/
theorem firstRefused_eq_none {p : Params} {k : AccessKind} {l : List Nat} :
    firstRefused p k l = none ↔ ∀ a ∈ l, memValid p k a = true := by
  simp [firstRefused]

/-- What a store leaves for fetch to see is what it leaves in the parcel of each byte it writes. -/
theorem mem_storeHistory {before after : List Host.Cell} {al : Bool} {written : List Nat} {o : StaleParcel} :
    o ∈ storeHistory before after al written ↔
      ∃ a ∈ written, o ∈ parcelHistory before after al written (parcelAddr a) := by
  simp [storeHistory]

/-- Every earlier parcel value that a store leaves is of an even address in the address space. -/
theorem storeHistory_addr {before after : List Host.Cell} {al : Bool} {written : List Nat} {N : Nat}
    (hw : ∀ a ∈ written, a < N) {o : StaleParcel} (h : o ∈ storeHistory before after al written) :
    o.addr % 2 = 0 ∧ o.addr < N := by
  obtain ⟨a, ha, h⟩ := mem_storeHistory.1 h
  have hlt := hw a ha
  have : o.addr = parcelAddr a := by
    unfold parcelHistory currentParcel at h
    split at h <;> simp only [List.mem_cons, List.not_mem_nil, or_false] at h <;> grind
  rw [this]
  simp only [parcelAddr]
  omega

end Sys2Proof.Machine
end

