-- ==== Sys2Proof/Laws/State.lean ====
section
/-! SUPPORT. One lemma per field and per reading for each update of the state, all true by computation, so that no later
proof unfolds a record update. -/
namespace Sys2Proof.Machine

section setXLaws
variable (s : State) (r : XReg) (v : Word)
@[simp] theorem State.setX_params : (s.setX r v).params = s.params := rfl
@[simp] theorem State.setX_f : (s.setX r v).f = s.f := rfl
@[simp] theorem State.setX_pc : (s.setX r v).pc = s.pc := rfl
@[simp] theorem State.setX_fsr : (s.setX r v).fsr = s.fsr := rfl
@[simp] theorem State.setX_cycle : (s.setX r v).cycle = s.cycle := rfl
@[simp] theorem State.setX_time : (s.setX r v).time = s.time := rfl
@[simp] theorem State.setX_instret : (s.setX r v).instret = s.instret := rfl
@[simp] theorem State.setX_mem : (s.setX r v).mem = s.mem := rfl
@[simp] theorem State.setX_stale : (s.setX r v).stale = s.stale := rfl
@[simp] theorem State.setX_draws : (s.setX r v).draws = s.draws := rfl
@[simp] theorem State.setX_xlen : (s.setX r v).xlen = s.xlen := rfl
@[simp] theorem State.setX_endian : (s.setX r v).endian = s.endian := rfl
@[simp] theorem State.setX_pcVal : (s.setX r v).pcVal = s.pcVal := rfl
@[simp] theorem State.setX_nextPc : (s.setX r v).nextPc = s.nextPc := rfl
@[simp] theorem State.setX_cellF (i : FReg) : (s.setX r v).cellF i = s.cellF i := rfl
@[simp] theorem State.setX_getS (i : FReg) : (s.setX r v).getS i = s.getS i := rfl
@[simp] theorem State.setX_getD (i : FReg) : (s.setX r v).getD i = s.getD i := rfl
@[simp] theorem State.setX_getF (G : Fmt) (i : FReg) : (s.setX r v).getF G i = s.getF G i := rfl
@[simp] theorem State.setX_fsrValue : (s.setX r v).fsrValue = s.fsrValue := rfl
@[simp] theorem State.setX_fsrRM : (s.setX r v).fsrRM = s.fsrRM := rfl
@[simp] theorem State.setX_fsrFlags : (s.setX r v).fsrFlags = s.fsrFlags := rfl
@[simp] theorem State.setX_readByte (k : Nat) : (s.setX r v).readByte k = s.readByte k := rfl
@[simp] theorem State.setX_addrs (b : Word) (m : Nat) : (s.setX r v).addrs b m = s.addrs b m := rfl
@[simp] theorem State.setX_load (b : Word) (m : Nat) : (s.setX r v).load b m = s.load b m := rfl
end setXLaws

section setFLaws
variable (s : State) (F : Fmt) (r : FReg) (b : FBits)
@[simp] theorem State.setF_params : (s.setF F r b).params = s.params := rfl
@[simp] theorem State.setF_x : (s.setF F r b).x = s.x := rfl
@[simp] theorem State.setF_pc : (s.setF F r b).pc = s.pc := rfl
@[simp] theorem State.setF_fsr : (s.setF F r b).fsr = s.fsr := rfl
@[simp] theorem State.setF_cycle : (s.setF F r b).cycle = s.cycle := rfl
@[simp] theorem State.setF_time : (s.setF F r b).time = s.time := rfl
@[simp] theorem State.setF_instret : (s.setF F r b).instret = s.instret := rfl
@[simp] theorem State.setF_mem : (s.setF F r b).mem = s.mem := rfl
@[simp] theorem State.setF_stale : (s.setF F r b).stale = s.stale := rfl
@[simp] theorem State.setF_draws : (s.setF F r b).draws = s.draws := rfl
@[simp] theorem State.setF_xlen : (s.setF F r b).xlen = s.xlen := rfl
@[simp] theorem State.setF_endian : (s.setF F r b).endian = s.endian := rfl
@[simp] theorem State.setF_pcVal : (s.setF F r b).pcVal = s.pcVal := rfl
@[simp] theorem State.setF_nextPc : (s.setF F r b).nextPc = s.nextPc := rfl
@[simp] theorem State.setF_getX (i : XReg) : (s.setF F r b).getX i = s.getX i := rfl
@[simp] theorem State.setF_fsrValue : (s.setF F r b).fsrValue = s.fsrValue := rfl
@[simp] theorem State.setF_fsrRM : (s.setF F r b).fsrRM = s.fsrRM := rfl
@[simp] theorem State.setF_fsrFlags : (s.setF F r b).fsrFlags = s.fsrFlags := rfl
@[simp] theorem State.setF_readByte (k : Nat) : (s.setF F r b).readByte k = s.readByte k := rfl
@[simp] theorem State.setF_addrs (b : Word) (m : Nat) : (s.setF F r b).addrs b m = s.addrs b m := rfl
@[simp] theorem State.setF_load (b : Word) (m : Nat) : (s.setF F r b).load b m = s.load b m := rfl
@[simp] theorem State.setF_effAddr (i : XReg) (imm : BitVec 12) : (s.setF F r b).effAddr i imm = s.effAddr i imm := rfl
end setFLaws

section setPcLaws
variable (s : State) (a : Word)
@[simp] theorem State.setPc_params : (s.setPc a).params = s.params := rfl
@[simp] theorem State.setPc_x : (s.setPc a).x = s.x := rfl
@[simp] theorem State.setPc_f : (s.setPc a).f = s.f := rfl
@[simp] theorem State.setPc_fsr : (s.setPc a).fsr = s.fsr := rfl
@[simp] theorem State.setPc_cycle : (s.setPc a).cycle = s.cycle := rfl
@[simp] theorem State.setPc_time : (s.setPc a).time = s.time := rfl
@[simp] theorem State.setPc_instret : (s.setPc a).instret = s.instret := rfl
@[simp] theorem State.setPc_mem : (s.setPc a).mem = s.mem := rfl
@[simp] theorem State.setPc_stale : (s.setPc a).stale = s.stale := rfl
@[simp] theorem State.setPc_draws : (s.setPc a).draws = s.draws := rfl
@[simp] theorem State.setPc_xlen : (s.setPc a).xlen = s.xlen := rfl
@[simp] theorem State.setPc_endian : (s.setPc a).endian = s.endian := rfl
@[simp] theorem State.setPc_getX (i : XReg) : (s.setPc a).getX i = s.getX i := rfl
@[simp] theorem State.setPc_cellF (i : FReg) : (s.setPc a).cellF i = s.cellF i := rfl
@[simp] theorem State.setPc_getS (i : FReg) : (s.setPc a).getS i = s.getS i := rfl
@[simp] theorem State.setPc_getD (i : FReg) : (s.setPc a).getD i = s.getD i := rfl
@[simp] theorem State.setPc_getF (G : Fmt) (i : FReg) : (s.setPc a).getF G i = s.getF G i := rfl
@[simp] theorem State.setPc_fsrValue : (s.setPc a).fsrValue = s.fsrValue := rfl
@[simp] theorem State.setPc_fsrRM : (s.setPc a).fsrRM = s.fsrRM := rfl
@[simp] theorem State.setPc_fsrFlags : (s.setPc a).fsrFlags = s.fsrFlags := rfl
@[simp] theorem State.setPc_readByte (k : Nat) : (s.setPc a).readByte k = s.readByte k := rfl
@[simp] theorem State.setPc_addrs (b : Word) (m : Nat) : (s.setPc a).addrs b m = s.addrs b m := rfl
@[simp] theorem State.setPc_load (b : Word) (m : Nat) : (s.setPc a).load b m = s.load b m := rfl
@[simp] theorem State.setPc_effAddr (i : XReg) (imm : BitVec 12) : (s.setPc a).effAddr i imm = s.effAddr i imm := rfl
end setPcLaws

section advanceLaws
variable (s : State)
@[simp] theorem State.advance_params : s.advance.params = s.params := rfl
@[simp] theorem State.advance_x : s.advance.x = s.x := rfl
@[simp] theorem State.advance_f : s.advance.f = s.f := rfl
@[simp] theorem State.advance_fsr : s.advance.fsr = s.fsr := rfl
@[simp] theorem State.advance_cycle : s.advance.cycle = s.cycle := rfl
@[simp] theorem State.advance_time : s.advance.time = s.time := rfl
@[simp] theorem State.advance_instret : s.advance.instret = s.instret := rfl
@[simp] theorem State.advance_mem : s.advance.mem = s.mem := rfl
@[simp] theorem State.advance_stale : s.advance.stale = s.stale := rfl
@[simp] theorem State.advance_draws : s.advance.draws = s.draws := rfl
@[simp] theorem State.advance_xlen : s.advance.xlen = s.xlen := rfl
@[simp] theorem State.advance_endian : s.advance.endian = s.endian := rfl
@[simp] theorem State.advance_getX (i : XReg) : s.advance.getX i = s.getX i := rfl
@[simp] theorem State.advance_cellF (i : FReg) : s.advance.cellF i = s.cellF i := rfl
@[simp] theorem State.advance_getS (i : FReg) : s.advance.getS i = s.getS i := rfl
@[simp] theorem State.advance_getD (i : FReg) : s.advance.getD i = s.getD i := rfl
@[simp] theorem State.advance_getF (G : Fmt) (i : FReg) : s.advance.getF G i = s.getF G i := rfl
@[simp] theorem State.advance_fsrValue : s.advance.fsrValue = s.fsrValue := rfl
@[simp] theorem State.advance_fsrRM : s.advance.fsrRM = s.fsrRM := rfl
@[simp] theorem State.advance_fsrFlags : s.advance.fsrFlags = s.fsrFlags := rfl
@[simp] theorem State.advance_readByte (k : Nat) : s.advance.readByte k = s.readByte k := rfl
@[simp] theorem State.advance_addrs (b : Word) (m : Nat) : s.advance.addrs b m = s.addrs b m := rfl
@[simp] theorem State.advance_load (b : Word) (m : Nat) : s.advance.load b m = s.load b m := rfl
@[simp] theorem State.advance_effAddr (i : XReg) (imm : BitVec 12) : s.advance.effAddr i imm = s.effAddr i imm := rfl
end advanceLaws

section raiseFlagsLaws
variable (s : State) (e : FlagSet)
@[simp] theorem State.raiseFlags_params : (s.raiseFlags e).params = s.params := rfl
@[simp] theorem State.raiseFlags_x : (s.raiseFlags e).x = s.x := rfl
@[simp] theorem State.raiseFlags_f : (s.raiseFlags e).f = s.f := rfl
@[simp] theorem State.raiseFlags_pc : (s.raiseFlags e).pc = s.pc := rfl
@[simp] theorem State.raiseFlags_cycle : (s.raiseFlags e).cycle = s.cycle := rfl
@[simp] theorem State.raiseFlags_time : (s.raiseFlags e).time = s.time := rfl
@[simp] theorem State.raiseFlags_instret : (s.raiseFlags e).instret = s.instret := rfl
@[simp] theorem State.raiseFlags_mem : (s.raiseFlags e).mem = s.mem := rfl
@[simp] theorem State.raiseFlags_stale : (s.raiseFlags e).stale = s.stale := rfl
@[simp] theorem State.raiseFlags_draws : (s.raiseFlags e).draws = s.draws := rfl
@[simp] theorem State.raiseFlags_xlen : (s.raiseFlags e).xlen = s.xlen := rfl
@[simp] theorem State.raiseFlags_endian : (s.raiseFlags e).endian = s.endian := rfl
@[simp] theorem State.raiseFlags_pcVal : (s.raiseFlags e).pcVal = s.pcVal := rfl
@[simp] theorem State.raiseFlags_nextPc : (s.raiseFlags e).nextPc = s.nextPc := rfl
@[simp] theorem State.raiseFlags_getX (i : XReg) : (s.raiseFlags e).getX i = s.getX i := rfl
@[simp] theorem State.raiseFlags_cellF (i : FReg) : (s.raiseFlags e).cellF i = s.cellF i := rfl
@[simp] theorem State.raiseFlags_getS (i : FReg) : (s.raiseFlags e).getS i = s.getS i := rfl
@[simp] theorem State.raiseFlags_getD (i : FReg) : (s.raiseFlags e).getD i = s.getD i := rfl
@[simp] theorem State.raiseFlags_getF (G : Fmt) (i : FReg) : (s.raiseFlags e).getF G i = s.getF G i := rfl
@[simp] theorem State.raiseFlags_readByte (k : Nat) : (s.raiseFlags e).readByte k = s.readByte k := rfl
@[simp] theorem State.raiseFlags_addrs (b : Word) (m : Nat) : (s.raiseFlags e).addrs b m = s.addrs b m := rfl
@[simp] theorem State.raiseFlags_load (b : Word) (m : Nat) : (s.raiseFlags e).load b m = s.load b m := rfl
@[simp] theorem State.raiseFlags_effAddr (i : XReg) (imm : BitVec 12) : (s.raiseFlags e).effAddr i imm = s.effAddr i imm := rfl
end raiseFlagsLaws

section writeFsrLaws
variable (s : State) (v : BitVec 32)
@[simp] theorem State.writeFsr_params : (s.writeFsr v).params = s.params := rfl
@[simp] theorem State.writeFsr_x : (s.writeFsr v).x = s.x := rfl
@[simp] theorem State.writeFsr_f : (s.writeFsr v).f = s.f := rfl
@[simp] theorem State.writeFsr_pc : (s.writeFsr v).pc = s.pc := rfl
@[simp] theorem State.writeFsr_cycle : (s.writeFsr v).cycle = s.cycle := rfl
@[simp] theorem State.writeFsr_time : (s.writeFsr v).time = s.time := rfl
@[simp] theorem State.writeFsr_instret : (s.writeFsr v).instret = s.instret := rfl
@[simp] theorem State.writeFsr_mem : (s.writeFsr v).mem = s.mem := rfl
@[simp] theorem State.writeFsr_stale : (s.writeFsr v).stale = s.stale := rfl
@[simp] theorem State.writeFsr_draws : (s.writeFsr v).draws = s.draws := rfl
@[simp] theorem State.writeFsr_xlen : (s.writeFsr v).xlen = s.xlen := rfl
@[simp] theorem State.writeFsr_endian : (s.writeFsr v).endian = s.endian := rfl
@[simp] theorem State.writeFsr_pcVal : (s.writeFsr v).pcVal = s.pcVal := rfl
@[simp] theorem State.writeFsr_nextPc : (s.writeFsr v).nextPc = s.nextPc := rfl
@[simp] theorem State.writeFsr_getX (i : XReg) : (s.writeFsr v).getX i = s.getX i := rfl
@[simp] theorem State.writeFsr_cellF (i : FReg) : (s.writeFsr v).cellF i = s.cellF i := rfl
@[simp] theorem State.writeFsr_getS (i : FReg) : (s.writeFsr v).getS i = s.getS i := rfl
@[simp] theorem State.writeFsr_getD (i : FReg) : (s.writeFsr v).getD i = s.getD i := rfl
@[simp] theorem State.writeFsr_getF (G : Fmt) (i : FReg) : (s.writeFsr v).getF G i = s.getF G i := rfl
@[simp] theorem State.writeFsr_readByte (k : Nat) : (s.writeFsr v).readByte k = s.readByte k := rfl
@[simp] theorem State.writeFsr_addrs (b : Word) (m : Nat) : (s.writeFsr v).addrs b m = s.addrs b m := rfl
@[simp] theorem State.writeFsr_load (b : Word) (m : Nat) : (s.writeFsr v).load b m = s.load b m := rfl
@[simp] theorem State.writeFsr_effAddr (i : XReg) (imm : BitVec 12) : (s.writeFsr v).effAddr i imm = s.effAddr i imm := rfl
end writeFsrLaws

section storeLaws
variable (s : State) (a : Word) (n : Nat) (v : Word)
@[simp] theorem State.store_params : (s.store a n v).params = s.params := rfl
@[simp] theorem State.store_x : (s.store a n v).x = s.x := rfl
@[simp] theorem State.store_f : (s.store a n v).f = s.f := rfl
@[simp] theorem State.store_pc : (s.store a n v).pc = s.pc := rfl
@[simp] theorem State.store_fsr : (s.store a n v).fsr = s.fsr := rfl
@[simp] theorem State.store_cycle : (s.store a n v).cycle = s.cycle := rfl
@[simp] theorem State.store_time : (s.store a n v).time = s.time := rfl
@[simp] theorem State.store_instret : (s.store a n v).instret = s.instret := rfl
@[simp] theorem State.store_draws : (s.store a n v).draws = s.draws := rfl
@[simp] theorem State.store_xlen : (s.store a n v).xlen = s.xlen := rfl
@[simp] theorem State.store_endian : (s.store a n v).endian = s.endian := rfl
@[simp] theorem State.store_pcVal : (s.store a n v).pcVal = s.pcVal := rfl
@[simp] theorem State.store_nextPc : (s.store a n v).nextPc = s.nextPc := rfl
@[simp] theorem State.store_getX (i : XReg) : (s.store a n v).getX i = s.getX i := rfl
@[simp] theorem State.store_cellF (i : FReg) : (s.store a n v).cellF i = s.cellF i := rfl
@[simp] theorem State.store_getS (i : FReg) : (s.store a n v).getS i = s.getS i := rfl
@[simp] theorem State.store_getD (i : FReg) : (s.store a n v).getD i = s.getD i := rfl
@[simp] theorem State.store_getF (G : Fmt) (i : FReg) : (s.store a n v).getF G i = s.getF G i := rfl
@[simp] theorem State.store_fsrValue : (s.store a n v).fsrValue = s.fsrValue := rfl
@[simp] theorem State.store_fsrRM : (s.store a n v).fsrRM = s.fsrRM := rfl
@[simp] theorem State.store_fsrFlags : (s.store a n v).fsrFlags = s.fsrFlags := rfl
@[simp] theorem State.store_addrs (b : Word) (m : Nat) : (s.store a n v).addrs b m = s.addrs b m := rfl
@[simp] theorem State.store_effAddr (i : XReg) (imm : BitVec 12) : (s.store a n v).effAddr i imm = s.effAddr i imm := rfl
end storeLaws

section fenceILaws
variable (s : State)
@[simp] theorem State.fenceI_params : s.fenceI.params = s.params := rfl
@[simp] theorem State.fenceI_x : s.fenceI.x = s.x := rfl
@[simp] theorem State.fenceI_f : s.fenceI.f = s.f := rfl
@[simp] theorem State.fenceI_pc : s.fenceI.pc = s.pc := rfl
@[simp] theorem State.fenceI_fsr : s.fenceI.fsr = s.fsr := rfl
@[simp] theorem State.fenceI_cycle : s.fenceI.cycle = s.cycle := rfl
@[simp] theorem State.fenceI_time : s.fenceI.time = s.time := rfl
@[simp] theorem State.fenceI_instret : s.fenceI.instret = s.instret := rfl
@[simp] theorem State.fenceI_mem : s.fenceI.mem = s.mem := rfl
@[simp] theorem State.fenceI_draws : s.fenceI.draws = s.draws := rfl
@[simp] theorem State.fenceI_xlen : s.fenceI.xlen = s.xlen := rfl
@[simp] theorem State.fenceI_endian : s.fenceI.endian = s.endian := rfl
@[simp] theorem State.fenceI_pcVal : s.fenceI.pcVal = s.pcVal := rfl
@[simp] theorem State.fenceI_nextPc : s.fenceI.nextPc = s.nextPc := rfl
@[simp] theorem State.fenceI_getX (i : XReg) : s.fenceI.getX i = s.getX i := rfl
@[simp] theorem State.fenceI_cellF (i : FReg) : s.fenceI.cellF i = s.cellF i := rfl
@[simp] theorem State.fenceI_getS (i : FReg) : s.fenceI.getS i = s.getS i := rfl
@[simp] theorem State.fenceI_getD (i : FReg) : s.fenceI.getD i = s.getD i := rfl
@[simp] theorem State.fenceI_getF (G : Fmt) (i : FReg) : s.fenceI.getF G i = s.getF G i := rfl
@[simp] theorem State.fenceI_fsrValue : s.fenceI.fsrValue = s.fsrValue := rfl
@[simp] theorem State.fenceI_fsrRM : s.fenceI.fsrRM = s.fsrRM := rfl
@[simp] theorem State.fenceI_fsrFlags : s.fenceI.fsrFlags = s.fsrFlags := rfl
@[simp] theorem State.fenceI_readByte (k : Nat) : s.fenceI.readByte k = s.readByte k := rfl
@[simp] theorem State.fenceI_addrs (b : Word) (m : Nat) : s.fenceI.addrs b m = s.addrs b m := rfl
@[simp] theorem State.fenceI_load (b : Word) (m : Nat) : s.fenceI.load b m = s.load b m := rfl
@[simp] theorem State.fenceI_effAddr (i : XReg) (imm : BitVec 12) : s.fenceI.effAddr i imm = s.effAddr i imm := rfl
end fenceILaws

section retireLaws
variable (ins : Instr) (s t : State)
@[simp] theorem State.retire_params : (State.retire ins s t).params = t.params := rfl
@[simp] theorem State.retire_x : (State.retire ins s t).x = t.x := rfl
@[simp] theorem State.retire_f : (State.retire ins s t).f = t.f := rfl
@[simp] theorem State.retire_pc : (State.retire ins s t).pc = t.pc := rfl
@[simp] theorem State.retire_fsr : (State.retire ins s t).fsr = t.fsr := rfl
@[simp] theorem State.retire_mem : (State.retire ins s t).mem = t.mem := rfl
@[simp] theorem State.retire_stale : (State.retire ins s t).stale = t.stale := rfl
@[simp] theorem State.retire_xlen : (State.retire ins s t).xlen = t.xlen := rfl
@[simp] theorem State.retire_endian : (State.retire ins s t).endian = t.endian := rfl
@[simp] theorem State.retire_pcVal : (State.retire ins s t).pcVal = t.pcVal := rfl
@[simp] theorem State.retire_nextPc : (State.retire ins s t).nextPc = t.nextPc := rfl
@[simp] theorem State.retire_getX (i : XReg) : (State.retire ins s t).getX i = t.getX i := rfl
@[simp] theorem State.retire_cellF (i : FReg) : (State.retire ins s t).cellF i = t.cellF i := rfl
@[simp] theorem State.retire_fsrValue : (State.retire ins s t).fsrValue = t.fsrValue := rfl
@[simp] theorem State.retire_fsrRM : (State.retire ins s t).fsrRM = t.fsrRM := rfl
@[simp] theorem State.retire_fsrFlags : (State.retire ins s t).fsrFlags = t.fsrFlags := rfl
@[simp] theorem State.retire_readByte (k : Nat) : (State.retire ins s t).readByte k = t.readByte k := rfl
@[simp] theorem State.retire_addrs (b : Word) (m : Nat) : (State.retire ins s t).addrs b m = t.addrs b m := rfl
@[simp] theorem State.retire_load (b : Word) (m : Nat) : (State.retire ins s t).load b m = t.load b m := rfl
@[simp] theorem State.retire_effAddr (i : XReg) (imm : BitVec 12) : (State.retire ins s t).effAddr i imm = t.effAddr i imm := rfl
end retireLaws

section resumeLaws
variable (s t : State)
@[simp] theorem State.resume_x : (s.resume t).x = t.x := rfl
@[simp] theorem State.resume_f : (s.resume t).f = t.f := rfl
@[simp] theorem State.resume_pc : (s.resume t).pc = t.pc := rfl
@[simp] theorem State.resume_fsr : (s.resume t).fsr = t.fsr := rfl
@[simp] theorem State.resume_mem : (s.resume t).mem = t.mem := rfl
@[simp] theorem State.resume_stale : (s.resume t).stale = t.stale := rfl
@[simp] theorem State.resume_params : (s.resume t).params = s.params := rfl
@[simp] theorem State.resume_cycle : (s.resume t).cycle = max s.cycle t.cycle := rfl
@[simp] theorem State.resume_time : (s.resume t).time = max s.time t.time := rfl
@[simp] theorem State.resume_instret : (s.resume t).instret = max s.instret t.instret := rfl
@[simp] theorem State.resume_draws : (s.resume t).draws = s.draws + 1 := rfl
@[simp] theorem State.resume_xlen : (s.resume t).xlen = s.xlen := rfl
@[simp] theorem State.resume_endian : (s.resume t).endian = s.endian := rfl
end resumeLaws

end Sys2Proof.Machine
end

