-- ==== Sys2Proof/Laws/Ops.lean ====
section
/-! SUPPORT. What each shared operation can do, said once: readings after updates, and for each operation that can
trap the exact condition under which it answers a next state. -/
namespace Sys2Proof.Machine

/-! ### Words -/

theorem toNat_wrap (xl : Xlen) (w : Word) : (xl.wrap w).toNat = w.toNat % 2 ^ xl.bits := by
  cases xl
  · simp only [Xlen.wrap, Xlen.bits, BitVec.toNat_setWidth]; omega
  · simp only [Xlen.wrap, Xlen.bits]; omega

theorem wrap_lt (xl : Xlen) (w : Word) : (xl.wrap w).toNat < 2 ^ xl.bits := by
  rw [toNat_wrap]; exact Nat.mod_lt _ (by positivity)

@[simp] theorem wrap_wrap (xl : Xlen) (w : Word) : xl.wrap (xl.wrap w) = xl.wrap w := by
  apply BitVec.eq_of_toNat_eq; simp [toNat_wrap]

@[simp] theorem wrap_zero (xl : Xlen) : xl.wrap 0#64 = 0#64 := by cases xl <;> decide

theorem wrap_eq_of_lt {xl : Xlen} {w : Word} (h : w.toNat < 2 ^ xl.bits) : xl.wrap w = w := by
  apply BitVec.eq_of_toNat_eq; rw [toNat_wrap, Nat.mod_eq_of_lt h]

theorem bits_le (xl : Xlen) : xl.bits ≤ 64 := by cases xl <;> decide

theorem pow_bits_dvd (xl : Xlen) : 2 ^ xl.bits ∣ 2 ^ 64 := Nat.pow_dvd_pow 2 (bits_le xl)

/-- Wrapping sees a word only modulo 2^XPRLEN. -/
theorem wrap_eq_of_mod {xl : Xlen} {v w : Word} (h : v.toNat % 2 ^ xl.bits = w.toNat % 2 ^ xl.bits) :
    xl.wrap v = xl.wrap w := by
  apply BitVec.eq_of_toNat_eq; simpa [toNat_wrap] using h

/-! ### Registers -/

@[simp] theorem State.getX_zero (s : State) : s.getX 0#5 = 0#64 := by simp [State.getX]

theorem State.getX_lt (s : State) (r : XReg) : (s.getX r).toNat < 2 ^ s.xlen.bits := by
  unfold State.getX
  split
  · simp
  · exact wrap_lt _ _

@[simp] theorem State.wrap_getX (s : State) (r : XReg) : s.xlen.wrap (s.getX r) = s.getX r :=
  wrap_eq_of_lt (s.getX_lt r)

/-- A read after a write of an x register. -/
theorem State.getX_setX (s : State) (rd : XReg) (v : Word) (r : XReg) :
    (s.setX rd v).getX r = if r = rd ∧ rd ≠ 0#5 then s.xlen.wrap v else s.getX r := by
  simp only [State.getX, State.setX, State.xlen]
  by_cases h0 : rd = 0#5
  · simp [h0]
  · by_cases h : r = rd
    · subst h; simp [h0]
    · have hn : rd.toNat ≠ r.toNat := fun e => h (BitVec.eq_of_toNat_eq e.symm)
      simp only [h, h0, if_false, false_and, Vector.getElem_set_ne _ _ hn]

@[simp] theorem State.getX_setX_self (s : State) (rd : XReg) (v : Word) :
    (s.setX rd v).getX rd = if rd = 0#5 then 0#64 else s.xlen.wrap v := by
  rw [State.getX_setX]; by_cases h : rd = 0#5 <;> simp [h]

theorem State.getX_setX_of_ne (s : State) {rd : XReg} (v : Word) {r : XReg} (h : r ≠ rd) :
    (s.setX rd v).getX r = s.getX r := by
  rw [State.getX_setX]; simp [h]

/-- A read after a write of an f register. -/
theorem State.cellF_setF (s : State) (F : Fmt) (rd : FReg) (b : FBits) (r : FReg) :
    (s.setF F rd b).cellF r = if r = rd then cellOf F b else s.cellF r := by
  simp only [State.cellF, State.setF]
  by_cases h : r = rd
  · subst h; simp
  · have hn : rd.toNat ≠ r.toNat := fun e => h (BitVec.eq_of_toNat_eq e.symm)
    simp only [h, if_false, Vector.getElem_set_ne _ _ hn]

@[simp] theorem State.cellF_setF_self (s : State) (F : Fmt) (rd : FReg) (b : FBits) :
    (s.setF F rd b).cellF rd = cellOf F b := by simp [State.cellF_setF]

/-! ### fsr -/

@[simp] theorem State.fsrFlags_raiseFlags (s : State) (e : FlagSet) :
    (s.raiseFlags e).fsrFlags = s.fsrFlags ||| e := by
  simp only [State.fsrFlags, State.raiseFlags]
  apply BitVec.eq_of_getLsbD_eq
  intro i hi
  simp only [BitVec.getLsbD_setWidth, BitVec.getLsbD_or]
  grind

@[simp] theorem State.fsrRM_raiseFlags (s : State) (e : FlagSet) : (s.raiseFlags e).fsrRM = s.fsrRM := by
  simp only [State.fsrRM, State.raiseFlags]
  apply BitVec.eq_of_getLsbD_eq
  intro i hi
  simp only [BitVec.getLsbD_extractLsb', BitVec.getLsbD_or, BitVec.getLsbD_setWidth]
  simp

/-! ### The pc -/

@[simp] theorem State.pcVal_setPc (s : State) (a : Word) : (s.setPc a).pcVal = s.xlen.wrap a := by
  simp [State.pcVal, State.setPc, State.xlen]

theorem State.toNat_pcVal_setPc (s : State) (a : Word) : (s.setPc a).pcVal.toNat = a.toNat % 2 ^ s.xlen.bits := by
  rw [State.pcVal_setPc, toNat_wrap]

theorem State.toNat_pcVal_lt (s : State) : s.pcVal.toNat < 2 ^ s.xlen.bits := wrap_lt _ _

/-- The next pc of an instruction that transfers no control. -/
theorem State.toNat_pcVal_advance (s : State) :
    s.advance.pcVal.toNat = (s.pcVal.toNat + 4) % 2 ^ s.xlen.bits := by
  rw [State.advance, State.toNat_pcVal_setPc, BitVec.toNat_add, Nat.mod_mod_of_dvd _ (pow_bits_dvd _)]
  rfl

/-! ### Memory -/

/-- A store leaves every byte outside the access alone. -/
theorem State.readByte_store_of_not_mem (s : State) (a : Word) (n : Nat) (v : Word) {k : Nat} (h : k ∉ s.addrs a n) :
    (s.store a n v).readByte k = s.readByte k := by
  refine Memory.read_writeAll_of_not_mem fun hk => h ?_
  rw [State.storeCells, List.map_fst_zip] at hk
  · exact hk
  · rw [length_bytesOfValue, State.addrs, length_accessAddrs]

/-- A store puts the bytes of the value at the bytes of the access. -/
theorem State.readByte_store (s : State) (a : Word) {n : Nat} (hn : n ≤ 8) (v : Word) {i : Nat} (hi : i < n) :
    (s.store a n v).readByte ((a.toNat + i) % 2 ^ s.xlen.bits) =
      (bytesOfValue s.endian n v)[i]'(by rw [length_bytesOfValue]; exact hi) := by
  have hl : (s.addrs a n).length = (bytesOfValue s.endian n v).length := by
    rw [length_bytesOfValue, State.addrs, length_accessAddrs]
  refine Memory.read_writeAll_of_mem ?_ ?_
  · rw [State.storeCells, List.map_fst_zip (by omega)]
    exact accessAddrs_nodup _ _ hn
  · have hz : i < (s.storeCells a n v).length := by
      simp [State.storeCells, length_bytesOfValue, State.addrs, length_accessAddrs, hi]
    have := List.getElem_mem hz
    simpa [State.storeCells, State.addrs, accessAddrs] using this

theorem State.wf_store {s : State} (h : Memory.wf s.mem) (a : Word) (n : Nat) (v : Word) :
    Memory.wf (s.store a n v).mem := Memory.wf_writeAll h _

/-! ### Operations that can trap -/

/-- An access answers a next state exactly when it is admitted and what follows answers it. -/
theorem withAccess_next {k : AccessKind} {a : Word} {n : Nat} {s t : State} {go : Out} :
    withAccess k a n s go = .next t ↔ (∀ b ∈ s.addrs a n, memValid s.params k b = true) ∧ go = .next t := by
  unfold withAccess
  split
  · rename_i h; exact ⟨fun g => ⟨firstRefused_eq_none.mp h, g⟩, fun g => g.2⟩
  · rename_i b h
    have hn : firstRefused s.params k (s.addrs a n) ≠ none := by simp [h]
    rw [Ne, firstRefused_eq_none] at hn
    simp [raise, hn]

/-- An admitted access is what follows it. -/
theorem withAccess_of_admitted {k : AccessKind} {a : Word} {n : Nat} {s : State} (go : Out)
    (h : ∀ b ∈ s.addrs a n, memValid s.params k b = true) : withAccess k a n s go = go := by
  unfold withAccess; rw [firstRefused_eq_none.mpr h]

/-- An access that is not admitted faults at its first refused byte. -/
theorem withAccess_of_refused {k : AccessKind} {a : Word} {n b : Nat} {s : State} (go : Out)
    (h : firstRefused s.params k (s.addrs a n) = some b) :
    withAccess k a n s go = .fault (.accessFault s.pcVal b k) := by
  unfold withAccess; rw [h]; rfl

theorem rv64Only_next {i : Instr} {s t : State} {k : Out} :
    rv64Only i s k = .next t ↔ s.xlen = .rv64 ∧ k = .next t := by
  unfold rv64Only
  split <;> rename_i h <;> simp [h, raiseIllegal, raiseIllegalWord, raise]

theorem rv64Only_of_rv64 {i : Instr} {s : State} (k : Out) (h : s.xlen = .rv64) : rv64Only i s k = k := by
  simp [rv64Only, h]

theorem rv64Only_of_rv32 {i : Instr} {s : State} (k : Out) (h : s.xlen = .rv32) :
    rv64Only i s k = .fault (.illegalInstruction s.pcVal (encode i)) := by
  simp [rv64Only, h, raiseIllegal, raiseIllegalWord, raise]

theorem shamtLegal_next {i : Instr} {sh : BitVec 6} {s t : State} {k : Out} :
    shamtLegal i sh s k = .next t ↔ (s.xlen = .rv64 ∨ sh.getLsbD 5 = false) ∧ k = .next t := by
  unfold shamtLegal
  cases hx : s.xlen <;> cases h5 : sh.getLsbD 5 <;> simp [raiseIllegal, raiseIllegalWord, raise]

theorem shamtLegal_of_legal {i : Instr} {sh : BitVec 6} {s : State} (k : Out)
    (h : s.xlen = .rv64 ∨ sh.getLsbD 5 = false) : shamtLegal i sh s k = k := by
  unfold shamtLegal
  rcases h with h | h
  · rw [h]
  · cases s.xlen
    · exact if_neg (by rw [h]; decide)
    · rfl

theorem withMode_next {i : Instr} {rm : RmField} {s t : State} {k : RMode → Out} :
    withMode i rm s k = .next t ↔ ∃ m, resolveMode rm s.fsrRM = some m ∧ k m = .next t := by
  unfold withMode
  split <;> rename_i h <;> simp [h, raiseIllegal, raiseIllegalWord, raise]

theorem withMode_of_mode {i : Instr} {rm : RmField} {s : State} {m : RMode} (k : RMode → Out)
    (h : resolveMode rm s.fsrRM = some m) : withMode i rm s k = k m := by
  simp [withMode, h]

theorem withMode_of_none {i : Instr} {rm : RmField} {s : State} (k : RMode → Out)
    (h : resolveMode rm s.fsrRM = none) :
    withMode i rm s k = .fault (.illegalInstruction s.pcVal (encode i)) := by
  simp [withMode, h, raiseIllegal, raiseIllegalWord, raise]

/-! ### Shapes -/

theorem loadX_next {n : Nat} {w : Word → Word} {rd rs1 : XReg} {imm : BitVec 12} {s t : State} :
    loadX n w rd rs1 imm s = .next t ↔
      (∀ b ∈ s.addrs (s.effAddr rs1 imm) n, memValid s.params .read b = true) ∧
        t = (s.setX rd (w (s.load (s.effAddr rs1 imm) n))).advance := by
  rw [loadX, withAccess_next]
  exact and_congr_right fun _ => ⟨fun h => (Host.Outcome.next.inj h).symm, fun h => h ▸ rfl⟩

theorem loadF_next {F : Fmt} {n : Nat} {rd : FReg} {rs1 : XReg} {imm : BitVec 12} {s t : State} :
    loadF F n rd rs1 imm s = .next t ↔
      (∀ b ∈ s.addrs (s.effAddr rs1 imm) n, memValid s.params .read b = true) ∧
        t = (s.setF F rd (s.load (s.effAddr rs1 imm) n)).advance := by
  rw [loadF, withAccess_next]
  exact and_congr_right fun _ => ⟨fun h => (Host.Outcome.next.inj h).symm, fun h => h ▸ rfl⟩

theorem storeAt_next {n : Nat} {v : Word} {rs1 : XReg} {imm : BitVec 12} {s t : State} :
    storeAt n v rs1 imm s = .next t ↔
      (∀ b ∈ s.addrs (s.effAddr rs1 imm) n, memValid s.params .write b = true) ∧
        t = (s.store (s.effAddr rs1 imm) n v).advance := by
  rw [storeAt, withAccess_next]
  exact and_congr_right fun _ => ⟨fun h => (Host.Outcome.next.inj h).symm, fun h => h ▸ rfl⟩

theorem amo_next {n : Nat} {op : Word → Word → Word} {w : Word → Word} {rd rs1 rs2 : XReg} {s t : State} :
    amo n op w rd rs1 rs2 s = .next t ↔
      (s.getX rs1).toNat % n = 0 ∧ (∀ b ∈ s.addrs (s.getX rs1) n, memValid s.params .read b = true) ∧
        (∀ b ∈ s.addrs (s.getX rs1) n, memValid s.params .write b = true) ∧
        t = ((s.store (s.getX rs1) n (op (s.load (s.getX rs1) n) (s.getX rs2))).setX rd
              (w (s.load (s.getX rs1) n))).advance := by
  unfold amo
  by_cases h : (s.getX rs1).toNat % n = 0
  · simp only [h, ne_eq, not_true_eq_false, if_false, withAccess_next, true_and]
    refine and_congr_right fun _ => and_congr_right fun _ => ?_
    exact ⟨fun h => (Host.Outcome.next.inj h).symm, fun h => h ▸ rfl⟩
  · simp [h, raise]

end Sys2Proof.Machine
end

