-- ==== Sys2Proof/Laws/Effect.lean ====
section
/-! SUPPORT. What an instruction can do, said once: a completed instruction changes the state in one of ten ways, and a
completed step is a completed instruction followed by its retirement. Proofs about every instruction go by cases on
these, not on the instructions. -/
namespace Sys2Proof.Machine

/-- The ten ways in which a completed instruction changes the state. -/
inductive Effect (s : State) : State → Prop where
  | writeX (rd : XReg) (v : Word) : Effect s (s.setX rd v).advance
  | writeXFlags (rd : XReg) (v : Word) (e : FlagSet) : Effect s ((s.setX rd v).raiseFlags e).advance
  | writeF (F : Fmt) (rd : FReg) (b : FBits) : Effect s (s.setF F rd b).advance
  | writeFFlags (F : Fmt) (rd : FReg) (b : FBits) (e : FlagSet) : Effect s ((s.setF F rd b).raiseFlags e).advance
  | store (a : Word) (n : Nat) (v : Word) : Effect s (s.store a n v).advance
  | amo (a : Word) (n : Nat) (v : Word) (rd : XReg) (w : Word) : Effect s ((s.store a n v).setX rd w).advance
  | jump (a : Word) : Effect s (s.setPc a)
  | link (rd : XReg) (v a : Word) : Effect s ((s.setX rd v).setPc a)
  | swapFsr (v : BitVec 32) (rd : XReg) (w : Word) : Effect s ((s.writeFsr v).setX rd w).advance
  | fenceI : Effect s s.fenceI.advance

section Shapes
variable {s t : State}

theorem next_effect {u : State} (e : Effect s u) (h : (Host.Outcome.next u : Out) = .next t) : Effect s t :=
  Host.Outcome.next.inj h ▸ e

theorem writeX_effect {rd : XReg} {v : Word} (h : writeX rd v s = .next t) : Effect s t :=
  next_effect (.writeX rd v) h

theorem compareX_effect {test : (n : Nat) → BitVec n → BitVec n → Bool} {rd rs1 : XReg} {b : Word}
    (h : compareX test rd rs1 b s = .next t) : Effect s t := writeX_effect h

theorem loadX_effect {n : Nat} {w : Word → Word} {rd rs1 : XReg} {imm : BitVec 12}
    (h : loadX n w rd rs1 imm s = .next t) : Effect s t := (loadX_next.mp h).2 ▸ .writeX ..

theorem loadF_effect {F : Fmt} {n : Nat} {rd : FReg} {rs1 : XReg} {imm : BitVec 12}
    (h : loadF F n rd rs1 imm s = .next t) : Effect s t := (loadF_next.mp h).2 ▸ .writeF ..

theorem storeAt_effect {n : Nat} {v : Word} {rs1 : XReg} {imm : BitVec 12} (h : storeAt n v rs1 imm s = .next t) :
    Effect s t := (storeAt_next.mp h).2 ▸ .store ..

theorem amo_effect {n : Nat} {op : Word → Word → Word} {w : Word → Word} {rd rs1 rs2 : XReg}
    (h : amo n op w rd rs1 rs2 s = .next t) : Effect s t := (amo_next.mp h).2.2.2 ▸ .amo ..

theorem amoW_effect {op : (n : Nat) → BitVec n → BitVec n → BitVec n} {rd rs1 rs2 : XReg}
    (h : amoW op rd rs1 rs2 s = .next t) : Effect s t := by
  unfold amoW at h
  exact amo_effect h

theorem amoD_effect {op : (n : Nat) → BitVec n → BitVec n → BitVec n} {rd rs1 rs2 : XReg}
    (h : amoD op rd rs1 rs2 s = .next t) : Effect s t := by
  unfold amoD at h
  exact amo_effect h

theorem branch_effect {c : Bool} {imm : BitVec 12} (h : branch c imm s = .next t) : Effect s t := by
  unfold branch at h
  split at h
  · exact next_effect (.jump _) h
  · exact next_effect (.jump _) h

theorem jalr_effect {rd rs1 : XReg} {imm : BitVec 12} (h : jalr rd rs1 imm s = .next t) : Effect s t :=
  next_effect (.link ..) h

theorem writeF_effect {F : Fmt} {rd : FReg} {r : FBits × FlagSet} (h : writeF F rd r s = .next t) : Effect s t :=
  next_effect (.writeFFlags ..) h

theorem writeXFlags_effect {rd : XReg} {v : Word} {e : FlagSet} (h : writeXFlags rd v e s = .next t) : Effect s t :=
  next_effect (.writeXFlags ..) h

/-- An instruction with a rounding mode changes the state as its body does. -/
theorem withMode_effect {i : Instr} {rm : RmField} {k : RMode → Out} (hk : ∀ m, k m = .next t → Effect s t)
    (h : withMode i rm s k = .next t) : Effect s t := by
  obtain ⟨m, -, h⟩ := withMode_next.mp h
  exact hk m h

theorem rv64Only_effect {i : Instr} {k : Out} (hk : k = .next t → Effect s t) (h : rv64Only i s k = .next t) :
    Effect s t := hk (rv64Only_next.mp h).2

theorem shamtLegal_effect {i : Instr} {sh : BitVec 6} {k : Out} (hk : k = .next t → Effect s t)
    (h : shamtLegal i sh s k = .next t) : Effect s t := hk (shamtLegal_next.mp h).2

theorem execLb_effect {rd : XReg} {rs1 : XReg} {imm : BitVec 12} (h : execLb rd rs1 imm s = .next t) :
    Effect s t := loadX_effect h
theorem execLh_effect {rd : XReg} {rs1 : XReg} {imm : BitVec 12} (h : execLh rd rs1 imm s = .next t) :
    Effect s t := loadX_effect h
theorem execLw_effect {rd : XReg} {rs1 : XReg} {imm : BitVec 12} (h : execLw rd rs1 imm s = .next t) :
    Effect s t := loadX_effect h
theorem execLd_effect {rd : XReg} {rs1 : XReg} {imm : BitVec 12} (h : execLd rd rs1 imm s = .next t) :
    Effect s t := rv64Only_effect (loadX_effect) h
theorem execLbu_effect {rd : XReg} {rs1 : XReg} {imm : BitVec 12} (h : execLbu rd rs1 imm s = .next t) :
    Effect s t := loadX_effect h
theorem execLhu_effect {rd : XReg} {rs1 : XReg} {imm : BitVec 12} (h : execLhu rd rs1 imm s = .next t) :
    Effect s t := loadX_effect h
theorem execLwu_effect {rd : XReg} {rs1 : XReg} {imm : BitVec 12} (h : execLwu rd rs1 imm s = .next t) :
    Effect s t := rv64Only_effect (loadX_effect) h
theorem execSb_effect {rs1 : XReg} {rs2 : XReg} {imm : BitVec 12} (h : execSb rs1 rs2 imm s = .next t) :
    Effect s t := storeAt_effect h
theorem execSh_effect {rs1 : XReg} {rs2 : XReg} {imm : BitVec 12} (h : execSh rs1 rs2 imm s = .next t) :
    Effect s t := storeAt_effect h
theorem execSw_effect {rs1 : XReg} {rs2 : XReg} {imm : BitVec 12} (h : execSw rs1 rs2 imm s = .next t) :
    Effect s t := storeAt_effect h
theorem execSd_effect {rs1 : XReg} {rs2 : XReg} {imm : BitVec 12} (h : execSd rs1 rs2 imm s = .next t) :
    Effect s t := rv64Only_effect (storeAt_effect) h
theorem execFlw_effect {rd : FReg} {rs1 : XReg} {imm : BitVec 12} (h : execFlw rd rs1 imm s = .next t) :
    Effect s t := loadF_effect h
theorem execFld_effect {rd : FReg} {rs1 : XReg} {imm : BitVec 12} (h : execFld rd rs1 imm s = .next t) :
    Effect s t := loadF_effect h
theorem execFsw_effect {rs1 : XReg} {rs2 : FReg} {imm : BitVec 12} (h : execFsw rs1 rs2 imm s = .next t) :
    Effect s t := storeAt_effect h
theorem execFsd_effect {rs1 : XReg} {rs2 : FReg} {imm : BitVec 12} (h : execFsd rs1 rs2 imm s = .next t) :
    Effect s t := storeAt_effect h
theorem execAmoaddW_effect {rd : XReg} {rs1 : XReg} {rs2 : XReg} (h : execAmoaddW rd rs1 rs2 s = .next t) :
    Effect s t := amoW_effect h
theorem execAmoswapW_effect {rd : XReg} {rs1 : XReg} {rs2 : XReg} (h : execAmoswapW rd rs1 rs2 s = .next t) :
    Effect s t := amoW_effect h
theorem execAmoandW_effect {rd : XReg} {rs1 : XReg} {rs2 : XReg} (h : execAmoandW rd rs1 rs2 s = .next t) :
    Effect s t := amoW_effect h
theorem execAmoorW_effect {rd : XReg} {rs1 : XReg} {rs2 : XReg} (h : execAmoorW rd rs1 rs2 s = .next t) :
    Effect s t := amoW_effect h
theorem execAmominW_effect {rd : XReg} {rs1 : XReg} {rs2 : XReg} (h : execAmominW rd rs1 rs2 s = .next t) :
    Effect s t := amoW_effect h
theorem execAmomaxW_effect {rd : XReg} {rs1 : XReg} {rs2 : XReg} (h : execAmomaxW rd rs1 rs2 s = .next t) :
    Effect s t := amoW_effect h
theorem execAmominuW_effect {rd : XReg} {rs1 : XReg} {rs2 : XReg} (h : execAmominuW rd rs1 rs2 s = .next t) :
    Effect s t := amoW_effect h
theorem execAmomaxuW_effect {rd : XReg} {rs1 : XReg} {rs2 : XReg} (h : execAmomaxuW rd rs1 rs2 s = .next t) :
    Effect s t := amoW_effect h
theorem execAmoaddD_effect {rd : XReg} {rs1 : XReg} {rs2 : XReg} (h : execAmoaddD rd rs1 rs2 s = .next t) :
    Effect s t := rv64Only_effect (amoD_effect) h
theorem execAmoswapD_effect {rd : XReg} {rs1 : XReg} {rs2 : XReg} (h : execAmoswapD rd rs1 rs2 s = .next t) :
    Effect s t := rv64Only_effect (amoD_effect) h
theorem execAmoandD_effect {rd : XReg} {rs1 : XReg} {rs2 : XReg} (h : execAmoandD rd rs1 rs2 s = .next t) :
    Effect s t := rv64Only_effect (amoD_effect) h
theorem execAmoorD_effect {rd : XReg} {rs1 : XReg} {rs2 : XReg} (h : execAmoorD rd rs1 rs2 s = .next t) :
    Effect s t := rv64Only_effect (amoD_effect) h
theorem execAmominD_effect {rd : XReg} {rs1 : XReg} {rs2 : XReg} (h : execAmominD rd rs1 rs2 s = .next t) :
    Effect s t := rv64Only_effect (amoD_effect) h
theorem execAmomaxD_effect {rd : XReg} {rs1 : XReg} {rs2 : XReg} (h : execAmomaxD rd rs1 rs2 s = .next t) :
    Effect s t := rv64Only_effect (amoD_effect) h
theorem execAmominuD_effect {rd : XReg} {rs1 : XReg} {rs2 : XReg} (h : execAmominuD rd rs1 rs2 s = .next t) :
    Effect s t := rv64Only_effect (amoD_effect) h
theorem execAmomaxuD_effect {rd : XReg} {rs1 : XReg} {rs2 : XReg} (h : execAmomaxuD rd rs1 rs2 s = .next t) :
    Effect s t := rv64Only_effect (amoD_effect) h
theorem execAddi_effect {rd : XReg} {rs1 : XReg} {imm : BitVec 12} (h : execAddi rd rs1 imm s = .next t) :
    Effect s t := writeX_effect h
theorem execSlti_effect {rd : XReg} {rs1 : XReg} {imm : BitVec 12} (h : execSlti rd rs1 imm s = .next t) :
    Effect s t := compareX_effect h
theorem execSltiu_effect {rd : XReg} {rs1 : XReg} {imm : BitVec 12} (h : execSltiu rd rs1 imm s = .next t) :
    Effect s t := compareX_effect h
theorem execAndi_effect {rd : XReg} {rs1 : XReg} {imm : BitVec 12} (h : execAndi rd rs1 imm s = .next t) :
    Effect s t := writeX_effect h
theorem execOri_effect {rd : XReg} {rs1 : XReg} {imm : BitVec 12} (h : execOri rd rs1 imm s = .next t) :
    Effect s t := writeX_effect h
theorem execXori_effect {rd : XReg} {rs1 : XReg} {imm : BitVec 12} (h : execXori rd rs1 imm s = .next t) :
    Effect s t := writeX_effect h
theorem execSlli_effect {rd : XReg} {rs1 : XReg} {shamt : BitVec 6} (h : execSlli rd rs1 shamt s = .next t) :
    Effect s t := shamtLegal_effect writeX_effect h
theorem execSrli_effect {rd : XReg} {rs1 : XReg} {shamt : BitVec 6} (h : execSrli rd rs1 shamt s = .next t) :
    Effect s t := shamtLegal_effect writeX_effect h
theorem execSrai_effect {rd : XReg} {rs1 : XReg} {shamt : BitVec 6} (h : execSrai rd rs1 shamt s = .next t) :
    Effect s t := shamtLegal_effect writeX_effect h
theorem execLui_effect {rd : XReg} {imm : BitVec 20} (h : execLui rd imm s = .next t) :
    Effect s t := writeX_effect h
theorem execAddiw_effect {rd : XReg} {rs1 : XReg} {imm : BitVec 12} (h : execAddiw rd rs1 imm s = .next t) :
    Effect s t := rv64Only_effect (writeX_effect) h
theorem execSlliw_effect {rd : XReg} {rs1 : XReg} {shamtw : BitVec 5} (h : execSlliw rd rs1 shamtw s = .next t) :
    Effect s t := rv64Only_effect (writeX_effect) h
theorem execSrliw_effect {rd : XReg} {rs1 : XReg} {shamtw : BitVec 5} (h : execSrliw rd rs1 shamtw s = .next t) :
    Effect s t := rv64Only_effect (writeX_effect) h
theorem execSraiw_effect {rd : XReg} {rs1 : XReg} {shamtw : BitVec 5} (h : execSraiw rd rs1 shamtw s = .next t) :
    Effect s t := rv64Only_effect (writeX_effect) h
theorem execAdd_effect {rd : XReg} {rs1 : XReg} {rs2 : XReg} (h : execAdd rd rs1 rs2 s = .next t) :
    Effect s t := writeX_effect h
theorem execSub_effect {rd : XReg} {rs1 : XReg} {rs2 : XReg} (h : execSub rd rs1 rs2 s = .next t) :
    Effect s t := writeX_effect h
theorem execSlt_effect {rd : XReg} {rs1 : XReg} {rs2 : XReg} (h : execSlt rd rs1 rs2 s = .next t) :
    Effect s t := compareX_effect h
theorem execSltu_effect {rd : XReg} {rs1 : XReg} {rs2 : XReg} (h : execSltu rd rs1 rs2 s = .next t) :
    Effect s t := compareX_effect h
theorem execAnd_effect {rd : XReg} {rs1 : XReg} {rs2 : XReg} (h : execAnd rd rs1 rs2 s = .next t) :
    Effect s t := writeX_effect h
theorem execOr_effect {rd : XReg} {rs1 : XReg} {rs2 : XReg} (h : execOr rd rs1 rs2 s = .next t) :
    Effect s t := writeX_effect h
theorem execXor_effect {rd : XReg} {rs1 : XReg} {rs2 : XReg} (h : execXor rd rs1 rs2 s = .next t) :
    Effect s t := writeX_effect h
theorem execSll_effect {rd : XReg} {rs1 : XReg} {rs2 : XReg} (h : execSll rd rs1 rs2 s = .next t) :
    Effect s t := writeX_effect h
theorem execSrl_effect {rd : XReg} {rs1 : XReg} {rs2 : XReg} (h : execSrl rd rs1 rs2 s = .next t) :
    Effect s t := writeX_effect h
theorem execSra_effect {rd : XReg} {rs1 : XReg} {rs2 : XReg} (h : execSra rd rs1 rs2 s = .next t) :
    Effect s t := writeX_effect h
theorem execAddw_effect {rd : XReg} {rs1 : XReg} {rs2 : XReg} (h : execAddw rd rs1 rs2 s = .next t) :
    Effect s t := rv64Only_effect (writeX_effect) h
theorem execSubw_effect {rd : XReg} {rs1 : XReg} {rs2 : XReg} (h : execSubw rd rs1 rs2 s = .next t) :
    Effect s t := rv64Only_effect (writeX_effect) h
theorem execSllw_effect {rd : XReg} {rs1 : XReg} {rs2 : XReg} (h : execSllw rd rs1 rs2 s = .next t) :
    Effect s t := rv64Only_effect (writeX_effect) h
theorem execSrlw_effect {rd : XReg} {rs1 : XReg} {rs2 : XReg} (h : execSrlw rd rs1 rs2 s = .next t) :
    Effect s t := rv64Only_effect (writeX_effect) h
theorem execSraw_effect {rd : XReg} {rs1 : XReg} {rs2 : XReg} (h : execSraw rd rs1 rs2 s = .next t) :
    Effect s t := rv64Only_effect (writeX_effect) h
theorem execMul_effect {rd : XReg} {rs1 : XReg} {rs2 : XReg} (h : execMul rd rs1 rs2 s = .next t) :
    Effect s t := writeX_effect h
theorem execMulh_effect {rd : XReg} {rs1 : XReg} {rs2 : XReg} (h : execMulh rd rs1 rs2 s = .next t) :
    Effect s t := writeX_effect h
theorem execMulhu_effect {rd : XReg} {rs1 : XReg} {rs2 : XReg} (h : execMulhu rd rs1 rs2 s = .next t) :
    Effect s t := writeX_effect h
theorem execMulhsu_effect {rd : XReg} {rs1 : XReg} {rs2 : XReg} (h : execMulhsu rd rs1 rs2 s = .next t) :
    Effect s t := writeX_effect h
theorem execMulw_effect {rd : XReg} {rs1 : XReg} {rs2 : XReg} (h : execMulw rd rs1 rs2 s = .next t) :
    Effect s t := rv64Only_effect (writeX_effect) h
theorem execDiv_effect {rd : XReg} {rs1 : XReg} {rs2 : XReg} (h : execDiv rd rs1 rs2 s = .next t) :
    Effect s t := writeX_effect h
theorem execDivu_effect {rd : XReg} {rs1 : XReg} {rs2 : XReg} (h : execDivu rd rs1 rs2 s = .next t) :
    Effect s t := writeX_effect h
theorem execRem_effect {rd : XReg} {rs1 : XReg} {rs2 : XReg} (h : execRem rd rs1 rs2 s = .next t) :
    Effect s t := writeX_effect h
theorem execRemu_effect {rd : XReg} {rs1 : XReg} {rs2 : XReg} (h : execRemu rd rs1 rs2 s = .next t) :
    Effect s t := writeX_effect h
theorem execDivw_effect {rd : XReg} {rs1 : XReg} {rs2 : XReg} (h : execDivw rd rs1 rs2 s = .next t) :
    Effect s t := rv64Only_effect (writeX_effect) h
theorem execDivuw_effect {rd : XReg} {rs1 : XReg} {rs2 : XReg} (h : execDivuw rd rs1 rs2 s = .next t) :
    Effect s t := rv64Only_effect (writeX_effect) h
theorem execRemw_effect {rd : XReg} {rs1 : XReg} {rs2 : XReg} (h : execRemw rd rs1 rs2 s = .next t) :
    Effect s t := rv64Only_effect (writeX_effect) h
theorem execRemuw_effect {rd : XReg} {rs1 : XReg} {rs2 : XReg} (h : execRemuw rd rs1 rs2 s = .next t) :
    Effect s t := rv64Only_effect (writeX_effect) h
theorem execJ_effect {off : BitVec 25} (h : execJ off s = .next t) :
    Effect s t := next_effect (.jump _) h
theorem execJal_effect {off : BitVec 25} (h : execJal off s = .next t) :
    Effect s t := next_effect (.link ..) h
theorem execJalrC_effect {rd : XReg} {rs1 : XReg} {imm : BitVec 12} (h : execJalrC rd rs1 imm s = .next t) :
    Effect s t := jalr_effect h
theorem execJalrR_effect {rd : XReg} {rs1 : XReg} {imm : BitVec 12} (h : execJalrR rd rs1 imm s = .next t) :
    Effect s t := jalr_effect h
theorem execJalrJ_effect {rd : XReg} {rs1 : XReg} {imm : BitVec 12} (h : execJalrJ rd rs1 imm s = .next t) :
    Effect s t := jalr_effect h
theorem execRdnpc_effect {rd : XReg} (h : execRdnpc rd s = .next t) :
    Effect s t := writeX_effect h
theorem execBeq_effect {rs1 : XReg} {rs2 : XReg} {imm : BitVec 12} (h : execBeq rs1 rs2 imm s = .next t) :
    Effect s t := branch_effect h
theorem execBne_effect {rs1 : XReg} {rs2 : XReg} {imm : BitVec 12} (h : execBne rs1 rs2 imm s = .next t) :
    Effect s t := branch_effect h
theorem execBlt_effect {rs1 : XReg} {rs2 : XReg} {imm : BitVec 12} (h : execBlt rs1 rs2 imm s = .next t) :
    Effect s t := branch_effect h
theorem execBge_effect {rs1 : XReg} {rs2 : XReg} {imm : BitVec 12} (h : execBge rs1 rs2 imm s = .next t) :
    Effect s t := branch_effect h
theorem execBltu_effect {rs1 : XReg} {rs2 : XReg} {imm : BitVec 12} (h : execBltu rs1 rs2 imm s = .next t) :
    Effect s t := branch_effect h
theorem execBgeu_effect {rs1 : XReg} {rs2 : XReg} {imm : BitVec 12} (h : execBgeu rs1 rs2 imm s = .next t) :
    Effect s t := branch_effect h
theorem execFaddS_effect {rd : FReg} {rs1 : FReg} {rs2 : FReg} {rm : RmField} (h : execFaddS rd rs1 rs2 rm s = .next t) :
    Effect s t := (withMode_effect fun _ => writeF_effect) h
theorem execFsubS_effect {rd : FReg} {rs1 : FReg} {rs2 : FReg} {rm : RmField} (h : execFsubS rd rs1 rs2 rm s = .next t) :
    Effect s t := (withMode_effect fun _ => writeF_effect) h
theorem execFmulS_effect {rd : FReg} {rs1 : FReg} {rs2 : FReg} {rm : RmField} (h : execFmulS rd rs1 rs2 rm s = .next t) :
    Effect s t := (withMode_effect fun _ => writeF_effect) h
theorem execFdivS_effect {rd : FReg} {rs1 : FReg} {rs2 : FReg} {rm : RmField} (h : execFdivS rd rs1 rs2 rm s = .next t) :
    Effect s t := (withMode_effect fun _ => writeF_effect) h
theorem execFsqrtS_effect {rd : FReg} {rs1 : FReg} {rm : RmField} (h : execFsqrtS rd rs1 rm s = .next t) :
    Effect s t := (withMode_effect fun _ => writeF_effect) h
theorem execFminS_effect {rd : FReg} {rs1 : FReg} {rs2 : FReg} (h : execFminS rd rs1 rs2 s = .next t) :
    Effect s t := writeF_effect h
theorem execFmaxS_effect {rd : FReg} {rs1 : FReg} {rs2 : FReg} (h : execFmaxS rd rs1 rs2 s = .next t) :
    Effect s t := writeF_effect h
theorem execFaddD_effect {rd : FReg} {rs1 : FReg} {rs2 : FReg} {rm : RmField} (h : execFaddD rd rs1 rs2 rm s = .next t) :
    Effect s t := (withMode_effect fun _ => writeF_effect) h
theorem execFsubD_effect {rd : FReg} {rs1 : FReg} {rs2 : FReg} {rm : RmField} (h : execFsubD rd rs1 rs2 rm s = .next t) :
    Effect s t := (withMode_effect fun _ => writeF_effect) h
theorem execFmulD_effect {rd : FReg} {rs1 : FReg} {rs2 : FReg} {rm : RmField} (h : execFmulD rd rs1 rs2 rm s = .next t) :
    Effect s t := (withMode_effect fun _ => writeF_effect) h
theorem execFdivD_effect {rd : FReg} {rs1 : FReg} {rs2 : FReg} {rm : RmField} (h : execFdivD rd rs1 rs2 rm s = .next t) :
    Effect s t := (withMode_effect fun _ => writeF_effect) h
theorem execFsqrtD_effect {rd : FReg} {rs1 : FReg} {rm : RmField} (h : execFsqrtD rd rs1 rm s = .next t) :
    Effect s t := (withMode_effect fun _ => writeF_effect) h
theorem execFminD_effect {rd : FReg} {rs1 : FReg} {rs2 : FReg} (h : execFminD rd rs1 rs2 s = .next t) :
    Effect s t := writeF_effect h
theorem execFmaxD_effect {rd : FReg} {rs1 : FReg} {rs2 : FReg} (h : execFmaxD rd rs1 rs2 s = .next t) :
    Effect s t := writeF_effect h
theorem execFmaddS_effect {rd : FReg} {rs1 : FReg} {rs2 : FReg} {rs3 : FReg} {rm : RmField} (h : execFmaddS rd rs1 rs2 rs3 rm s = .next t) :
    Effect s t := (withMode_effect fun _ => writeF_effect) h
theorem execFmsubS_effect {rd : FReg} {rs1 : FReg} {rs2 : FReg} {rs3 : FReg} {rm : RmField} (h : execFmsubS rd rs1 rs2 rs3 rm s = .next t) :
    Effect s t := (withMode_effect fun _ => writeF_effect) h
theorem execFnmsubS_effect {rd : FReg} {rs1 : FReg} {rs2 : FReg} {rs3 : FReg} {rm : RmField} (h : execFnmsubS rd rs1 rs2 rs3 rm s = .next t) :
    Effect s t := (withMode_effect fun _ => writeF_effect) h
theorem execFnmaddS_effect {rd : FReg} {rs1 : FReg} {rs2 : FReg} {rs3 : FReg} {rm : RmField} (h : execFnmaddS rd rs1 rs2 rs3 rm s = .next t) :
    Effect s t := (withMode_effect fun _ => writeF_effect) h
theorem execFmaddD_effect {rd : FReg} {rs1 : FReg} {rs2 : FReg} {rs3 : FReg} {rm : RmField} (h : execFmaddD rd rs1 rs2 rs3 rm s = .next t) :
    Effect s t := (withMode_effect fun _ => writeF_effect) h
theorem execFmsubD_effect {rd : FReg} {rs1 : FReg} {rs2 : FReg} {rs3 : FReg} {rm : RmField} (h : execFmsubD rd rs1 rs2 rs3 rm s = .next t) :
    Effect s t := (withMode_effect fun _ => writeF_effect) h
theorem execFnmsubD_effect {rd : FReg} {rs1 : FReg} {rs2 : FReg} {rs3 : FReg} {rm : RmField} (h : execFnmsubD rd rs1 rs2 rs3 rm s = .next t) :
    Effect s t := (withMode_effect fun _ => writeF_effect) h
theorem execFnmaddD_effect {rd : FReg} {rs1 : FReg} {rs2 : FReg} {rs3 : FReg} {rm : RmField} (h : execFnmaddD rd rs1 rs2 rs3 rm s = .next t) :
    Effect s t := (withMode_effect fun _ => writeF_effect) h
theorem execFcvtLS_effect {rd : XReg} {rs1 : FReg} {rm : RmField} (h : execFcvtLS rd rs1 rm s = .next t) :
    Effect s t := rv64Only_effect (withMode_effect fun _ => writeXFlags_effect) h
theorem execFcvtLuS_effect {rd : XReg} {rs1 : FReg} {rm : RmField} (h : execFcvtLuS rd rs1 rm s = .next t) :
    Effect s t := rv64Only_effect (withMode_effect fun _ => writeXFlags_effect) h
theorem execFcvtWS_effect {rd : XReg} {rs1 : FReg} {rm : RmField} (h : execFcvtWS rd rs1 rm s = .next t) :
    Effect s t := (withMode_effect fun _ => writeXFlags_effect) h
theorem execFcvtWuS_effect {rd : XReg} {rs1 : FReg} {rm : RmField} (h : execFcvtWuS rd rs1 rm s = .next t) :
    Effect s t := (withMode_effect fun _ => writeXFlags_effect) h
theorem execFcvtLD_effect {rd : XReg} {rs1 : FReg} {rm : RmField} (h : execFcvtLD rd rs1 rm s = .next t) :
    Effect s t := rv64Only_effect (withMode_effect fun _ => writeXFlags_effect) h
theorem execFcvtLuD_effect {rd : XReg} {rs1 : FReg} {rm : RmField} (h : execFcvtLuD rd rs1 rm s = .next t) :
    Effect s t := rv64Only_effect (withMode_effect fun _ => writeXFlags_effect) h
theorem execFcvtWD_effect {rd : XReg} {rs1 : FReg} {rm : RmField} (h : execFcvtWD rd rs1 rm s = .next t) :
    Effect s t := (withMode_effect fun _ => writeXFlags_effect) h
theorem execFcvtWuD_effect {rd : XReg} {rs1 : FReg} {rm : RmField} (h : execFcvtWuD rd rs1 rm s = .next t) :
    Effect s t := (withMode_effect fun _ => writeXFlags_effect) h
theorem execFcvtSL_effect {rd : FReg} {rs1 : XReg} {rm : RmField} (h : execFcvtSL rd rs1 rm s = .next t) :
    Effect s t := rv64Only_effect (withMode_effect fun _ => writeF_effect) h
theorem execFcvtSLu_effect {rd : FReg} {rs1 : XReg} {rm : RmField} (h : execFcvtSLu rd rs1 rm s = .next t) :
    Effect s t := rv64Only_effect (withMode_effect fun _ => writeF_effect) h
theorem execFcvtSW_effect {rd : FReg} {rs1 : XReg} {rm : RmField} (h : execFcvtSW rd rs1 rm s = .next t) :
    Effect s t := (withMode_effect fun _ => writeF_effect) h
theorem execFcvtSWu_effect {rd : FReg} {rs1 : XReg} {rm : RmField} (h : execFcvtSWu rd rs1 rm s = .next t) :
    Effect s t := (withMode_effect fun _ => writeF_effect) h
theorem execFcvtDL_effect {rd : FReg} {rs1 : XReg} {rm : RmField} (h : execFcvtDL rd rs1 rm s = .next t) :
    Effect s t := rv64Only_effect (withMode_effect fun _ => writeF_effect) h
theorem execFcvtDLu_effect {rd : FReg} {rs1 : XReg} {rm : RmField} (h : execFcvtDLu rd rs1 rm s = .next t) :
    Effect s t := rv64Only_effect (withMode_effect fun _ => writeF_effect) h
theorem execFcvtDW_effect {rd : FReg} {rs1 : XReg} {rm : RmField} (h : execFcvtDW rd rs1 rm s = .next t) :
    Effect s t := (withMode_effect fun _ => writeF_effect) h
theorem execFcvtDWu_effect {rd : FReg} {rs1 : XReg} {rm : RmField} (h : execFcvtDWu rd rs1 rm s = .next t) :
    Effect s t := (withMode_effect fun _ => writeF_effect) h
theorem execFcvtSD_effect {rd : FReg} {rs1 : FReg} {rm : RmField} (h : execFcvtSD rd rs1 rm s = .next t) :
    Effect s t := (withMode_effect fun _ => writeF_effect) h
theorem execFcvtDS_effect {rd : FReg} {rs1 : FReg} {rm : RmField} (h : execFcvtDS rd rs1 rm s = .next t) :
    Effect s t := (withMode_effect fun _ => writeF_effect) h
theorem execFsgnjS_effect {rd : FReg} {rs1 : FReg} {rs2 : FReg} (h : execFsgnjS rd rs1 rs2 s = .next t) :
    Effect s t := next_effect (.writeF ..) h
theorem execFsgnjnS_effect {rd : FReg} {rs1 : FReg} {rs2 : FReg} (h : execFsgnjnS rd rs1 rs2 s = .next t) :
    Effect s t := next_effect (.writeF ..) h
theorem execFsgnjxS_effect {rd : FReg} {rs1 : FReg} {rs2 : FReg} (h : execFsgnjxS rd rs1 rs2 s = .next t) :
    Effect s t := next_effect (.writeF ..) h
theorem execFsgnjD_effect {rd : FReg} {rs1 : FReg} {rs2 : FReg} (h : execFsgnjD rd rs1 rs2 s = .next t) :
    Effect s t := next_effect (.writeF ..) h
theorem execFsgnjnD_effect {rd : FReg} {rs1 : FReg} {rs2 : FReg} (h : execFsgnjnD rd rs1 rs2 s = .next t) :
    Effect s t := next_effect (.writeF ..) h
theorem execFsgnjxD_effect {rd : FReg} {rs1 : FReg} {rs2 : FReg} (h : execFsgnjxD rd rs1 rs2 s = .next t) :
    Effect s t := next_effect (.writeF ..) h
theorem execMftxS_effect {rd : XReg} {rs2 : FReg} (h : execMftxS rd rs2 s = .next t) :
    Effect s t := writeX_effect h
theorem execMftxD_effect {rd : XReg} {rs2 : FReg} (h : execMftxD rd rs2 s = .next t) :
    Effect s t := rv64Only_effect (writeX_effect) h
theorem execMxtfS_effect {rd : FReg} {rs1 : XReg} (h : execMxtfS rd rs1 s = .next t) :
    Effect s t := next_effect (.writeF ..) h
theorem execMxtfD_effect {rd : FReg} {rs1 : XReg} (h : execMxtfD rd rs1 s = .next t) :
    Effect s t := rv64Only_effect (next_effect (.writeF ..)) h
theorem execMffsr_effect {rd : XReg} (h : execMffsr rd s = .next t) :
    Effect s t := writeX_effect h
theorem execMtfsr_effect {rd : XReg} {rs1 : XReg} (h : execMtfsr rd rs1 s = .next t) :
    Effect s t := next_effect (.swapFsr ..) h
theorem execFeqS_effect {rd : XReg} {rs1 : FReg} {rs2 : FReg} (h : execFeqS rd rs1 rs2 s = .next t) :
    Effect s t := writeXFlags_effect h
theorem execFltS_effect {rd : XReg} {rs1 : FReg} {rs2 : FReg} (h : execFltS rd rs1 rs2 s = .next t) :
    Effect s t := writeXFlags_effect h
theorem execFleS_effect {rd : XReg} {rs1 : FReg} {rs2 : FReg} (h : execFleS rd rs1 rs2 s = .next t) :
    Effect s t := writeXFlags_effect h
theorem execFeqD_effect {rd : XReg} {rs1 : FReg} {rs2 : FReg} (h : execFeqD rd rs1 rs2 s = .next t) :
    Effect s t := writeXFlags_effect h
theorem execFltD_effect {rd : XReg} {rs1 : FReg} {rs2 : FReg} (h : execFltD rd rs1 rs2 s = .next t) :
    Effect s t := writeXFlags_effect h
theorem execFleD_effect {rd : XReg} {rs1 : FReg} {rs2 : FReg} (h : execFleD rd rs1 rs2 s = .next t) :
    Effect s t := writeXFlags_effect h
theorem execFence_effect {rd : BitVec 5} {rs1 : BitVec 5} {imm : BitVec 12} (h : execFence rd rs1 imm s = .next t) :
    Effect s t := next_effect (.jump _) h
theorem execFenceI_effect {rd : BitVec 5} {rs1 : BitVec 5} {imm : BitVec 12} (h : execFenceI rd rs1 imm s = .next t) :
    Effect s t := next_effect .fenceI h
theorem execSyscall_effect (h : execSyscall s = .next t) :
    Effect s t := by simp [execSyscall, raise] at h
theorem execBrk_effect (h : execBrk s = .next t) :
    Effect s t := by simp [execBrk, raise] at h
theorem execRdcycle_effect {rd : XReg} (h : execRdcycle rd s = .next t) :
    Effect s t := writeX_effect h
theorem execRdtime_effect {rd : XReg} (h : execRdtime rd s = .next t) :
    Effect s t := writeX_effect h
theorem execRdinstret_effect {rd : XReg} (h : execRdinstret rd s = .next t) :
    Effect s t := writeX_effect h

end Shapes

/-- A completed instruction changes the state in one of the ten ways. -/
theorem exec_effect {s t : State} {i : Instr} (h : exec i s = .next t) : Effect s t := by
  cases i with
  | lb => exact execLb_effect h
  | lh => exact execLh_effect h
  | lw => exact execLw_effect h
  | ld => exact execLd_effect h
  | lbu => exact execLbu_effect h
  | lhu => exact execLhu_effect h
  | lwu => exact execLwu_effect h
  | sb => exact execSb_effect h
  | sh => exact execSh_effect h
  | sw => exact execSw_effect h
  | sd => exact execSd_effect h
  | flw => exact execFlw_effect h
  | fld => exact execFld_effect h
  | fsw => exact execFsw_effect h
  | fsd => exact execFsd_effect h
  | amoaddW => exact execAmoaddW_effect h
  | amoswapW => exact execAmoswapW_effect h
  | amoandW => exact execAmoandW_effect h
  | amoorW => exact execAmoorW_effect h
  | amominW => exact execAmominW_effect h
  | amomaxW => exact execAmomaxW_effect h
  | amominuW => exact execAmominuW_effect h
  | amomaxuW => exact execAmomaxuW_effect h
  | amoaddD => exact execAmoaddD_effect h
  | amoswapD => exact execAmoswapD_effect h
  | amoandD => exact execAmoandD_effect h
  | amoorD => exact execAmoorD_effect h
  | amominD => exact execAmominD_effect h
  | amomaxD => exact execAmomaxD_effect h
  | amominuD => exact execAmominuD_effect h
  | amomaxuD => exact execAmomaxuD_effect h
  | addi => exact execAddi_effect h
  | slti => exact execSlti_effect h
  | sltiu => exact execSltiu_effect h
  | andi => exact execAndi_effect h
  | ori => exact execOri_effect h
  | xori => exact execXori_effect h
  | slli => exact execSlli_effect h
  | srli => exact execSrli_effect h
  | srai => exact execSrai_effect h
  | lui => exact execLui_effect h
  | addiw => exact execAddiw_effect h
  | slliw => exact execSlliw_effect h
  | srliw => exact execSrliw_effect h
  | sraiw => exact execSraiw_effect h
  | add => exact execAdd_effect h
  | sub => exact execSub_effect h
  | slt => exact execSlt_effect h
  | sltu => exact execSltu_effect h
  | and => exact execAnd_effect h
  | or => exact execOr_effect h
  | xor => exact execXor_effect h
  | sll => exact execSll_effect h
  | srl => exact execSrl_effect h
  | sra => exact execSra_effect h
  | addw => exact execAddw_effect h
  | subw => exact execSubw_effect h
  | sllw => exact execSllw_effect h
  | srlw => exact execSrlw_effect h
  | sraw => exact execSraw_effect h
  | mul => exact execMul_effect h
  | mulh => exact execMulh_effect h
  | mulhu => exact execMulhu_effect h
  | mulhsu => exact execMulhsu_effect h
  | mulw => exact execMulw_effect h
  | div => exact execDiv_effect h
  | divu => exact execDivu_effect h
  | rem => exact execRem_effect h
  | remu => exact execRemu_effect h
  | divw => exact execDivw_effect h
  | divuw => exact execDivuw_effect h
  | remw => exact execRemw_effect h
  | remuw => exact execRemuw_effect h
  | j => exact execJ_effect h
  | jal => exact execJal_effect h
  | jalrC => exact execJalrC_effect h
  | jalrR => exact execJalrR_effect h
  | jalrJ => exact execJalrJ_effect h
  | rdnpc => exact execRdnpc_effect h
  | beq => exact execBeq_effect h
  | bne => exact execBne_effect h
  | blt => exact execBlt_effect h
  | bge => exact execBge_effect h
  | bltu => exact execBltu_effect h
  | bgeu => exact execBgeu_effect h
  | faddS => exact execFaddS_effect h
  | fsubS => exact execFsubS_effect h
  | fmulS => exact execFmulS_effect h
  | fdivS => exact execFdivS_effect h
  | fsqrtS => exact execFsqrtS_effect h
  | fminS => exact execFminS_effect h
  | fmaxS => exact execFmaxS_effect h
  | faddD => exact execFaddD_effect h
  | fsubD => exact execFsubD_effect h
  | fmulD => exact execFmulD_effect h
  | fdivD => exact execFdivD_effect h
  | fsqrtD => exact execFsqrtD_effect h
  | fminD => exact execFminD_effect h
  | fmaxD => exact execFmaxD_effect h
  | fmaddS => exact execFmaddS_effect h
  | fmsubS => exact execFmsubS_effect h
  | fnmsubS => exact execFnmsubS_effect h
  | fnmaddS => exact execFnmaddS_effect h
  | fmaddD => exact execFmaddD_effect h
  | fmsubD => exact execFmsubD_effect h
  | fnmsubD => exact execFnmsubD_effect h
  | fnmaddD => exact execFnmaddD_effect h
  | fcvtLS => exact execFcvtLS_effect h
  | fcvtLuS => exact execFcvtLuS_effect h
  | fcvtWS => exact execFcvtWS_effect h
  | fcvtWuS => exact execFcvtWuS_effect h
  | fcvtLD => exact execFcvtLD_effect h
  | fcvtLuD => exact execFcvtLuD_effect h
  | fcvtWD => exact execFcvtWD_effect h
  | fcvtWuD => exact execFcvtWuD_effect h
  | fcvtSL => exact execFcvtSL_effect h
  | fcvtSLu => exact execFcvtSLu_effect h
  | fcvtSW => exact execFcvtSW_effect h
  | fcvtSWu => exact execFcvtSWu_effect h
  | fcvtDL => exact execFcvtDL_effect h
  | fcvtDLu => exact execFcvtDLu_effect h
  | fcvtDW => exact execFcvtDW_effect h
  | fcvtDWu => exact execFcvtDWu_effect h
  | fcvtSD => exact execFcvtSD_effect h
  | fcvtDS => exact execFcvtDS_effect h
  | fsgnjS => exact execFsgnjS_effect h
  | fsgnjnS => exact execFsgnjnS_effect h
  | fsgnjxS => exact execFsgnjxS_effect h
  | fsgnjD => exact execFsgnjD_effect h
  | fsgnjnD => exact execFsgnjnD_effect h
  | fsgnjxD => exact execFsgnjxD_effect h
  | mftxS => exact execMftxS_effect h
  | mftxD => exact execMftxD_effect h
  | mxtfS => exact execMxtfS_effect h
  | mxtfD => exact execMxtfD_effect h
  | mffsr => exact execMffsr_effect h
  | mtfsr => exact execMtfsr_effect h
  | feqS => exact execFeqS_effect h
  | fltS => exact execFltS_effect h
  | fleS => exact execFleS_effect h
  | feqD => exact execFeqD_effect h
  | fltD => exact execFltD_effect h
  | fleD => exact execFleD_effect h
  | fence rd rs1 imm => exact execFence_effect (rd := rd) (rs1 := rs1) (imm := imm) h
  | fenceI rd rs1 imm => exact execFenceI_effect (rd := rd) (rs1 := rs1) (imm := imm) h
  | syscall => exact execSyscall_effect h
  | brk => exact execBrk_effect h
  | rdcycle => exact execRdcycle_effect h
  | rdtime => exact execRdtime_effect h
  | rdinstret => exact execRdinstret_effect h

/-- A completed step: the word at the pc decodes, its instruction completes, and the instruction is retired. -/
theorem step_next {s t : State} : step s = .next t ↔
    s.pcVal.toNat % 4 = 0 ∧ (∀ a ∈ s.addrs s.pcVal 4, memValid s.params .fetch a = true) ∧
      ∃ i u, decodeWord (s.fetchWord s.pcVal.toNat) = .ok i ∧ exec i s = .next u ∧ t = State.retire i s u := by
  unfold step withFetch
  by_cases hp : s.pcVal.toNat % 4 = 0
  · simp only [hp, ne_eq, not_true_eq_false, if_false, withAccess_next, true_and]
    refine and_congr_right fun _ => ?_
    cases hd : decodeWord (s.fetchWord s.pcVal.toNat) with
    | error e => simp [raiseIllegalWord, raise]
    | ok i =>
      cases he : exec i s with
      | next u => simp [retired, he, eq_comm]
      | fault f => simp [retired, he]
      | refused r => simp [retired, he]
  · simp [hp, raise]

/-- A completed step under an environment: a completed step, or a trap that the environment answers. -/
theorem stepUnder_next {env : EnvTrap} {s t : State} : stepUnder env s = .next t ↔
    step s = .next t ∨ ∃ e u, step s = .fault e ∧ env e s = some u ∧ t = s.resume u := by
  unfold stepUnder
  cases hs : step s with
  | next v => simp
  | refused r => simp
  | fault e => cases he : env e s <;> simp [he, eq_comm]

end Sys2Proof.Machine
end

