-- ==== Sys2Proof/Laws/Encoding.lean ====
section
/-! SUPPORT. What each field of an encoded word is: one lemma per format and field, which proofs about decoding and
encoding cite instead of reasoning about bits. -/
namespace Sys2Proof

section FieldLaws
variable (rd rs1 rs2 f5 shw : BitVec 5) (f7 op : BitVec 7) (h6 sh : BitVec 6) (f3 rm : BitVec 3) (fmt : BitVec 2)
  (imm : BitVec 12) (imm20 : BitVec 20) (off : BitVec 25)

@[simp] theorem opcodeF_encR : opcodeF (encR rd rs1 rs2 f7 f3 op) = op := by
  apply BitVec.eq_of_getLsbD_eq
  intro i hi
  simp only [opcodeF, encR, BitVec.getLsbD_extractLsb', BitVec.getLsbD_append]
  grind

@[simp] theorem funct10F_encR : funct10F (encR rd rs1 rs2 f7 f3 op) = f7 ++ f3 := by
  apply BitVec.eq_of_getLsbD_eq
  intro i hi
  simp only [funct10F, encR, BitVec.getLsbD_extractLsb', BitVec.getLsbD_append]
  grind

@[simp] theorem funct3F_encR : funct3F (encR rd rs1 rs2 f7 f3 op) = f3 := by
  apply BitVec.eq_of_getLsbD_eq
  intro i hi
  simp only [funct3F, encR, BitVec.getLsbD_extractLsb', BitVec.getLsbD_append]
  grind

@[simp] theorem rdF_encR : rdF (encR rd rs1 rs2 f7 f3 op) = rd := by
  apply BitVec.eq_of_getLsbD_eq
  intro i hi
  simp only [rdF, encR, BitVec.getLsbD_extractLsb', BitVec.getLsbD_append]
  grind

@[simp] theorem rs1F_encR : rs1F (encR rd rs1 rs2 f7 f3 op) = rs1 := by
  apply BitVec.eq_of_getLsbD_eq
  intro i hi
  simp only [rs1F, encR, BitVec.getLsbD_extractLsb', BitVec.getLsbD_append]
  grind

@[simp] theorem rs2F_encR : rs2F (encR rd rs1 rs2 f7 f3 op) = rs2 := by
  apply BitVec.eq_of_getLsbD_eq
  intro i hi
  simp only [rs2F, encR, BitVec.getLsbD_extractLsb', BitVec.getLsbD_append]
  grind

@[simp] theorem opcodeF_encI : opcodeF (encI rd rs1 imm f3 op) = op := by
  apply BitVec.eq_of_getLsbD_eq
  intro i hi
  simp only [opcodeF, encI, BitVec.getLsbD_extractLsb', BitVec.getLsbD_append]
  grind

@[simp] theorem funct3F_encI : funct3F (encI rd rs1 imm f3 op) = f3 := by
  apply BitVec.eq_of_getLsbD_eq
  intro i hi
  simp only [funct3F, encI, BitVec.getLsbD_extractLsb', BitVec.getLsbD_append]
  grind

@[simp] theorem rdF_encI : rdF (encI rd rs1 imm f3 op) = rd := by
  apply BitVec.eq_of_getLsbD_eq
  intro i hi
  simp only [rdF, encI, BitVec.getLsbD_extractLsb', BitVec.getLsbD_append]
  grind

@[simp] theorem rs1F_encI : rs1F (encI rd rs1 imm f3 op) = rs1 := by
  apply BitVec.eq_of_getLsbD_eq
  intro i hi
  simp only [rs1F, encI, BitVec.getLsbD_extractLsb', BitVec.getLsbD_append]
  grind

@[simp] theorem iImmF_encI : iImmF (encI rd rs1 imm f3 op) = imm := by
  apply BitVec.eq_of_getLsbD_eq
  intro i hi
  simp only [iImmF, encI, BitVec.getLsbD_extractLsb', BitVec.getLsbD_append]
  grind

@[simp] theorem opcodeF_encB : opcodeF (encB imm rs1 rs2 f3 op) = op := by
  apply BitVec.eq_of_getLsbD_eq
  intro i hi
  simp only [opcodeF, encB, BitVec.getLsbD_extractLsb', BitVec.getLsbD_append]
  grind

@[simp] theorem funct3F_encB : funct3F (encB imm rs1 rs2 f3 op) = f3 := by
  apply BitVec.eq_of_getLsbD_eq
  intro i hi
  simp only [funct3F, encB, BitVec.getLsbD_extractLsb', BitVec.getLsbD_append]
  grind

@[simp] theorem rs1F_encB : rs1F (encB imm rs1 rs2 f3 op) = rs1 := by
  apply BitVec.eq_of_getLsbD_eq
  intro i hi
  simp only [rs1F, encB, BitVec.getLsbD_extractLsb', BitVec.getLsbD_append]
  grind

@[simp] theorem rs2F_encB : rs2F (encB imm rs1 rs2 f3 op) = rs2 := by
  apply BitVec.eq_of_getLsbD_eq
  intro i hi
  simp only [rs2F, encB, BitVec.getLsbD_extractLsb', BitVec.getLsbD_append]
  grind

@[simp] theorem bImmF_encB : bImmF (encB imm rs1 rs2 f3 op) = imm := by
  apply BitVec.eq_of_getLsbD_eq
  intro i hi
  simp only [bImmF, encB, BitVec.getLsbD_extractLsb', BitVec.getLsbD_append]
  grind

@[simp] theorem opcodeF_encShift : opcodeF (encShift rd rs1 h6 sh f3 op) = op := by
  apply BitVec.eq_of_getLsbD_eq
  intro i hi
  simp only [opcodeF, encShift, BitVec.getLsbD_extractLsb', BitVec.getLsbD_append]
  grind

@[simp] theorem funct3F_encShift : funct3F (encShift rd rs1 h6 sh f3 op) = f3 := by
  apply BitVec.eq_of_getLsbD_eq
  intro i hi
  simp only [funct3F, encShift, BitVec.getLsbD_extractLsb', BitVec.getLsbD_append]
  grind

@[simp] theorem shiftHiF_encShift : shiftHiF (encShift rd rs1 h6 sh f3 op) = h6 := by
  apply BitVec.eq_of_getLsbD_eq
  intro i hi
  simp only [shiftHiF, encShift, BitVec.getLsbD_extractLsb', BitVec.getLsbD_append]
  grind

@[simp] theorem rdF_encShift : rdF (encShift rd rs1 h6 sh f3 op) = rd := by
  apply BitVec.eq_of_getLsbD_eq
  intro i hi
  simp only [rdF, encShift, BitVec.getLsbD_extractLsb', BitVec.getLsbD_append]
  grind

@[simp] theorem rs1F_encShift : rs1F (encShift rd rs1 h6 sh f3 op) = rs1 := by
  apply BitVec.eq_of_getLsbD_eq
  intro i hi
  simp only [rs1F, encShift, BitVec.getLsbD_extractLsb', BitVec.getLsbD_append]
  grind

@[simp] theorem shamtF_encShift : shamtF (encShift rd rs1 h6 sh f3 op) = sh := by
  apply BitVec.eq_of_getLsbD_eq
  intro i hi
  simp only [shamtF, encShift, BitVec.getLsbD_extractLsb', BitVec.getLsbD_append]
  grind

@[simp] theorem opcodeF_encShiftW : opcodeF (encShiftW rd rs1 f7 shw f3 op) = op := by
  apply BitVec.eq_of_getLsbD_eq
  intro i hi
  simp only [opcodeF, encShiftW, BitVec.getLsbD_extractLsb', BitVec.getLsbD_append]
  grind

@[simp] theorem funct3F_encShiftW : funct3F (encShiftW rd rs1 f7 shw f3 op) = f3 := by
  apply BitVec.eq_of_getLsbD_eq
  intro i hi
  simp only [funct3F, encShiftW, BitVec.getLsbD_extractLsb', BitVec.getLsbD_append]
  grind

@[simp] theorem shiftHiWF_encShiftW : shiftHiWF (encShiftW rd rs1 f7 shw f3 op) = f7 := by
  apply BitVec.eq_of_getLsbD_eq
  intro i hi
  simp only [shiftHiWF, encShiftW, BitVec.getLsbD_extractLsb', BitVec.getLsbD_append]
  grind

@[simp] theorem rdF_encShiftW : rdF (encShiftW rd rs1 f7 shw f3 op) = rd := by
  apply BitVec.eq_of_getLsbD_eq
  intro i hi
  simp only [rdF, encShiftW, BitVec.getLsbD_extractLsb', BitVec.getLsbD_append]
  grind

@[simp] theorem rs1F_encShiftW : rs1F (encShiftW rd rs1 f7 shw f3 op) = rs1 := by
  apply BitVec.eq_of_getLsbD_eq
  intro i hi
  simp only [rs1F, encShiftW, BitVec.getLsbD_extractLsb', BitVec.getLsbD_append]
  grind

@[simp] theorem shamtwF_encShiftW : shamtwF (encShiftW rd rs1 f7 shw f3 op) = shw := by
  apply BitVec.eq_of_getLsbD_eq
  intro i hi
  simp only [shamtwF, encShiftW, BitVec.getLsbD_extractLsb', BitVec.getLsbD_append]
  grind

@[simp] theorem opcodeF_encL : opcodeF (encL rd imm20 op) = op := by
  apply BitVec.eq_of_getLsbD_eq
  intro i hi
  simp only [opcodeF, encL, BitVec.getLsbD_extractLsb', BitVec.getLsbD_append]
  grind

@[simp] theorem rdF_encL : rdF (encL rd imm20 op) = rd := by
  apply BitVec.eq_of_getLsbD_eq
  intro i hi
  simp only [rdF, encL, BitVec.getLsbD_extractLsb', BitVec.getLsbD_append]
  grind

@[simp] theorem imm20F_encL : imm20F (encL rd imm20 op) = imm20 := by
  apply BitVec.eq_of_getLsbD_eq
  intro i hi
  simp only [imm20F, encL, BitVec.getLsbD_extractLsb', BitVec.getLsbD_append]
  grind

@[simp] theorem opcodeF_encJ : opcodeF (encJ off op) = op := by
  apply BitVec.eq_of_getLsbD_eq
  intro i hi
  simp only [opcodeF, encJ, BitVec.getLsbD_extractLsb', BitVec.getLsbD_append]
  grind

@[simp] theorem off25F_encJ : off25F (encJ off op) = off := by
  apply BitVec.eq_of_getLsbD_eq
  intro i hi
  simp only [off25F, encJ, BitVec.getLsbD_extractLsb', BitVec.getLsbD_append]
  grind

@[simp] theorem opcodeF_encFp : opcodeF (encFp rd rs1 rs2 f5 rm fmt op) = op := by
  apply BitVec.eq_of_getLsbD_eq
  intro i hi
  simp only [opcodeF, encFp, BitVec.getLsbD_extractLsb', BitVec.getLsbD_append]
  grind

@[simp] theorem fmtF_encFp : fmtF (encFp rd rs1 rs2 f5 rm fmt op) = fmt := by
  apply BitVec.eq_of_getLsbD_eq
  intro i hi
  simp only [fmtF, encFp, BitVec.getLsbD_extractLsb', BitVec.getLsbD_append]
  grind

@[simp] theorem rmF_encFp : rmF (encFp rd rs1 rs2 f5 rm fmt op) = rm := by
  apply BitVec.eq_of_getLsbD_eq
  intro i hi
  simp only [rmF, encFp, BitVec.getLsbD_extractLsb', BitVec.getLsbD_append]
  grind

@[simp] theorem funct5F_encFp : funct5F (encFp rd rs1 rs2 f5 rm fmt op) = f5 := by
  apply BitVec.eq_of_getLsbD_eq
  intro i hi
  simp only [funct5F, encFp, BitVec.getLsbD_extractLsb', BitVec.getLsbD_append]
  grind

@[simp] theorem rs3F_encFp : rs3F (encFp rd rs1 rs2 f5 rm fmt op) = f5 := by
  apply BitVec.eq_of_getLsbD_eq
  intro i hi
  simp only [rs3F, encFp, BitVec.getLsbD_extractLsb', BitVec.getLsbD_append]
  grind

@[simp] theorem rdF_encFp : rdF (encFp rd rs1 rs2 f5 rm fmt op) = rd := by
  apply BitVec.eq_of_getLsbD_eq
  intro i hi
  simp only [rdF, encFp, BitVec.getLsbD_extractLsb', BitVec.getLsbD_append]
  grind

@[simp] theorem rs1F_encFp : rs1F (encFp rd rs1 rs2 f5 rm fmt op) = rs1 := by
  apply BitVec.eq_of_getLsbD_eq
  intro i hi
  simp only [rs1F, encFp, BitVec.getLsbD_extractLsb', BitVec.getLsbD_append]
  grind

@[simp] theorem rs2F_encFp : rs2F (encFp rd rs1 rs2 f5 rm fmt op) = rs2 := by
  apply BitVec.eq_of_getLsbD_eq
  intro i hi
  simp only [rs2F, encFp, BitVec.getLsbD_extractLsb', BitVec.getLsbD_append]
  grind

end FieldLaws

/-- The two lowest bits of a word are those of its major opcode. -/
theorem low2_opcodeF (w : InstWord) : w.extractLsb' 0 2 = (opcodeF w).extractLsb' 0 2 := by
  apply BitVec.eq_of_getLsbD_eq
  intro i hi
  simp only [opcodeF, BitVec.getLsbD_extractLsb']
  grind

/-- The five lowest bits of a word are those of its major opcode. -/
theorem low5_opcodeF (w : InstWord) : w.extractLsb' 0 5 = (opcodeF w).extractLsb' 0 5 := by
  apply BitVec.eq_of_getLsbD_eq
  intro i hi
  simp only [opcodeF, BitVec.getLsbD_extractLsb']
  grind

/-- A word whose major opcode is that of a base instruction is decoded by the opcode map. -/
theorem decodeWord_of_opcode (w : InstWord) (h2 : (opcodeF w).extractLsb' 0 2 = 0b11#2)
    (h5 : (opcodeF w).extractLsb' 0 5 ≠ 0b11111#5) : decodeWord w = decodeMajor w := by
  unfold decodeWord
  rw [low2_opcodeF, low5_opcodeF, if_neg (not_not.mpr h2), if_neg h5]

end Sys2Proof
end

