-- ==== Sys2Proof/Laws/PerInstr.lean ====
section
/-! SUPPORT. The per-instruction family `TableRow`: the word of an instruction carries the fixed bits of its row of the
opcode table, whatever its operands (R108). -/
namespace Sys2Proof

section MaskLaws
variable (rd rs1 rs2 f5 shw : BitVec 5) (f7 op : BitVec 7) (h6 sh : BitVec 6) (f3 rm : BitVec 3) (fmt : BitVec 2)
  (imm : BitVec 12) (imm20 : BitVec 20) (off : BitVec 25)

theorem mask_encI_3FF : encI rd rs1 imm f3 op &&& 0x000003FF#32 = encI 0 0 0 f3 op := by
  apply BitVec.eq_of_getLsbD_eq
  intro i hi
  simp only [encI, BitVec.getLsbD_and, BitVec.getLsbD_append]
  interval_cases i <;> simp

theorem mask_encB_3FF : encB imm rs1 rs2 f3 op &&& 0x000003FF#32 = encB 0 0 0 f3 op := by
  apply BitVec.eq_of_getLsbD_eq
  intro i hi
  simp only [encB, BitVec.getLsbD_and, BitVec.getLsbD_append]
  interval_cases i <;> simp

theorem mask_encR_1FFFF : encR rd rs1 rs2 f7 f3 op &&& 0x0001FFFF#32 = encR 0 0 0 f7 f3 op := by
  apply BitVec.eq_of_getLsbD_eq
  intro i hi
  simp only [encR, BitVec.getLsbD_and, BitVec.getLsbD_append]
  interval_cases i <;> simp

theorem mask_encShift_3F03FF : encShift rd rs1 h6 sh f3 op &&& 0x003F03FF#32 = encShift 0 0 h6 0 f3 op := by
  apply BitVec.eq_of_getLsbD_eq
  intro i hi
  simp only [encShift, BitVec.getLsbD_and, BitVec.getLsbD_append]
  interval_cases i <;> simp

theorem mask_encL_7F : encL rd imm20 op &&& 0x0000007F#32 = encL 0 0 op := by
  apply BitVec.eq_of_getLsbD_eq
  intro i hi
  simp only [encL, BitVec.getLsbD_and, BitVec.getLsbD_append]
  interval_cases i <;> simp

theorem mask_encShiftW_3F83FF : encShiftW rd rs1 f7 shw f3 op &&& 0x003F83FF#32 = encShiftW 0 0 f7 0 f3 op := by
  apply BitVec.eq_of_getLsbD_eq
  intro i hi
  simp only [encShiftW, BitVec.getLsbD_and, BitVec.getLsbD_append]
  interval_cases i <;> simp

theorem mask_encJ_7F : encJ off op &&& 0x0000007F#32 = encJ 0 op := by
  apply BitVec.eq_of_getLsbD_eq
  intro i hi
  simp only [encJ, BitVec.getLsbD_and, BitVec.getLsbD_append]
  interval_cases i <;> simp

theorem mask_encI_7FFFFFF : encI rd rs1 imm f3 op &&& 0x07FFFFFF#32 = encI 0 rs1 imm f3 op := by
  apply BitVec.eq_of_getLsbD_eq
  intro i hi
  simp only [encI, BitVec.getLsbD_and, BitVec.getLsbD_append]
  interval_cases i <;> simp

theorem mask_encFp_1F1FF : encFp rd rs1 rs2 f5 rm fmt op &&& 0x0001F1FF#32 = encFp 0 0 0 f5 0 fmt op := by
  apply BitVec.eq_of_getLsbD_eq
  intro i hi
  simp only [encFp, BitVec.getLsbD_and, BitVec.getLsbD_append]
  interval_cases i <;> simp

theorem mask_encFp_3FF1FF : encFp rd rs1 rs2 f5 rm fmt op &&& 0x003FF1FF#32 = encFp 0 0 rs2 f5 0 fmt op := by
  apply BitVec.eq_of_getLsbD_eq
  intro i hi
  simp only [encFp, BitVec.getLsbD_and, BitVec.getLsbD_append]
  interval_cases i <;> simp

theorem mask_encFp_1FFFF : encFp rd rs1 rs2 f5 rm fmt op &&& 0x0001FFFF#32 = encFp 0 0 0 f5 rm fmt op := by
  apply BitVec.eq_of_getLsbD_eq
  intro i hi
  simp only [encFp, BitVec.getLsbD_and, BitVec.getLsbD_append]
  interval_cases i <;> simp

theorem mask_encFp_1FF : encFp rd rs1 rs2 f5 rm fmt op &&& 0x000001FF#32 = encFp 0 0 0 0 0 fmt op := by
  apply BitVec.eq_of_getLsbD_eq
  intro i hi
  simp only [encFp, BitVec.getLsbD_and, BitVec.getLsbD_append]
  interval_cases i <;> simp

theorem mask_encFp_7C1FFFF : encFp rd rs1 rs2 f5 rm fmt op &&& 0x07C1FFFF#32 = encFp 0 rs1 0 f5 rm fmt op := by
  apply BitVec.eq_of_getLsbD_eq
  intro i hi
  simp only [encFp, BitVec.getLsbD_and, BitVec.getLsbD_append]
  interval_cases i <;> simp

theorem mask_encFp_3FFFFF : encFp rd rs1 rs2 f5 rm fmt op &&& 0x003FFFFF#32 = encFp 0 0 rs2 f5 rm fmt op := by
  apply BitVec.eq_of_getLsbD_eq
  intro i hi
  simp only [encFp, BitVec.getLsbD_and, BitVec.getLsbD_append]
  interval_cases i <;> simp

theorem mask_encFp_7FFFFFF : encFp rd rs1 rs2 f5 rm fmt op &&& 0x07FFFFFF#32 = encFp 0 rs1 rs2 f5 rm fmt op := by
  apply BitVec.eq_of_getLsbD_eq
  intro i hi
  simp only [encFp, BitVec.getLsbD_and, BitVec.getLsbD_append]
  interval_cases i <;> simp

theorem mask_encR_FFFFFFFF : encR rd rs1 rs2 f7 f3 op &&& 0xFFFFFFFF#32 = encR rd rs1 rs2 f7 f3 op := by
  apply BitVec.eq_of_getLsbD_eq
  intro i hi
  simp only [encR, BitVec.getLsbD_and, BitVec.getLsbD_append]
  interval_cases i <;> simp

theorem mask_encR_7FFFFFF : encR rd rs1 rs2 f7 f3 op &&& 0x07FFFFFF#32 = encR 0 rs1 rs2 f7 f3 op := by
  apply BitVec.eq_of_getLsbD_eq
  intro i hi
  simp only [encR, BitVec.getLsbD_and, BitVec.getLsbD_append]
  interval_cases i <;> simp

end MaskLaws

/-- The word of the instruction has its row's fixed bits at its row's values. -/
def Laws.TableRow.Statement (i : Instr) : Prop := encode i &&& i.tableMask = i.tableMatch

namespace Laws.TableRow

theorem lb (rd : XReg) (rs1 : XReg) (imm : BitVec 12) : Statement (.lb rd rs1 imm) :=
  (mask_encI_3FF _ _ _ _ _).trans rfl
theorem lh (rd : XReg) (rs1 : XReg) (imm : BitVec 12) : Statement (.lh rd rs1 imm) :=
  (mask_encI_3FF _ _ _ _ _).trans rfl
theorem lw (rd : XReg) (rs1 : XReg) (imm : BitVec 12) : Statement (.lw rd rs1 imm) :=
  (mask_encI_3FF _ _ _ _ _).trans rfl
theorem ld (rd : XReg) (rs1 : XReg) (imm : BitVec 12) : Statement (.ld rd rs1 imm) :=
  (mask_encI_3FF _ _ _ _ _).trans rfl
theorem lbu (rd : XReg) (rs1 : XReg) (imm : BitVec 12) : Statement (.lbu rd rs1 imm) :=
  (mask_encI_3FF _ _ _ _ _).trans rfl
theorem lhu (rd : XReg) (rs1 : XReg) (imm : BitVec 12) : Statement (.lhu rd rs1 imm) :=
  (mask_encI_3FF _ _ _ _ _).trans rfl
theorem lwu (rd : XReg) (rs1 : XReg) (imm : BitVec 12) : Statement (.lwu rd rs1 imm) :=
  (mask_encI_3FF _ _ _ _ _).trans rfl
theorem sb (rs1 : XReg) (rs2 : XReg) (imm : BitVec 12) : Statement (.sb rs1 rs2 imm) :=
  (mask_encB_3FF _ _ _ _ _).trans rfl
theorem sh (rs1 : XReg) (rs2 : XReg) (imm : BitVec 12) : Statement (.sh rs1 rs2 imm) :=
  (mask_encB_3FF _ _ _ _ _).trans rfl
theorem sw (rs1 : XReg) (rs2 : XReg) (imm : BitVec 12) : Statement (.sw rs1 rs2 imm) :=
  (mask_encB_3FF _ _ _ _ _).trans rfl
theorem sd (rs1 : XReg) (rs2 : XReg) (imm : BitVec 12) : Statement (.sd rs1 rs2 imm) :=
  (mask_encB_3FF _ _ _ _ _).trans rfl
theorem flw (rd : FReg) (rs1 : XReg) (imm : BitVec 12) : Statement (.flw rd rs1 imm) :=
  (mask_encI_3FF _ _ _ _ _).trans rfl
theorem fld (rd : FReg) (rs1 : XReg) (imm : BitVec 12) : Statement (.fld rd rs1 imm) :=
  (mask_encI_3FF _ _ _ _ _).trans rfl
theorem fsw (rs1 : XReg) (rs2 : FReg) (imm : BitVec 12) : Statement (.fsw rs1 rs2 imm) :=
  (mask_encB_3FF _ _ _ _ _).trans rfl
theorem fsd (rs1 : XReg) (rs2 : FReg) (imm : BitVec 12) : Statement (.fsd rs1 rs2 imm) :=
  (mask_encB_3FF _ _ _ _ _).trans rfl
theorem amoaddW (rd : XReg) (rs1 : XReg) (rs2 : XReg) : Statement (.amoaddW rd rs1 rs2) :=
  (mask_encR_1FFFF _ _ _ _ _ _).trans rfl
theorem amoswapW (rd : XReg) (rs1 : XReg) (rs2 : XReg) : Statement (.amoswapW rd rs1 rs2) :=
  (mask_encR_1FFFF _ _ _ _ _ _).trans rfl
theorem amoandW (rd : XReg) (rs1 : XReg) (rs2 : XReg) : Statement (.amoandW rd rs1 rs2) :=
  (mask_encR_1FFFF _ _ _ _ _ _).trans rfl
theorem amoorW (rd : XReg) (rs1 : XReg) (rs2 : XReg) : Statement (.amoorW rd rs1 rs2) :=
  (mask_encR_1FFFF _ _ _ _ _ _).trans rfl
theorem amominW (rd : XReg) (rs1 : XReg) (rs2 : XReg) : Statement (.amominW rd rs1 rs2) :=
  (mask_encR_1FFFF _ _ _ _ _ _).trans rfl
theorem amomaxW (rd : XReg) (rs1 : XReg) (rs2 : XReg) : Statement (.amomaxW rd rs1 rs2) :=
  (mask_encR_1FFFF _ _ _ _ _ _).trans rfl
theorem amominuW (rd : XReg) (rs1 : XReg) (rs2 : XReg) : Statement (.amominuW rd rs1 rs2) :=
  (mask_encR_1FFFF _ _ _ _ _ _).trans rfl
theorem amomaxuW (rd : XReg) (rs1 : XReg) (rs2 : XReg) : Statement (.amomaxuW rd rs1 rs2) :=
  (mask_encR_1FFFF _ _ _ _ _ _).trans rfl
theorem amoaddD (rd : XReg) (rs1 : XReg) (rs2 : XReg) : Statement (.amoaddD rd rs1 rs2) :=
  (mask_encR_1FFFF _ _ _ _ _ _).trans rfl
theorem amoswapD (rd : XReg) (rs1 : XReg) (rs2 : XReg) : Statement (.amoswapD rd rs1 rs2) :=
  (mask_encR_1FFFF _ _ _ _ _ _).trans rfl
theorem amoandD (rd : XReg) (rs1 : XReg) (rs2 : XReg) : Statement (.amoandD rd rs1 rs2) :=
  (mask_encR_1FFFF _ _ _ _ _ _).trans rfl
theorem amoorD (rd : XReg) (rs1 : XReg) (rs2 : XReg) : Statement (.amoorD rd rs1 rs2) :=
  (mask_encR_1FFFF _ _ _ _ _ _).trans rfl
theorem amominD (rd : XReg) (rs1 : XReg) (rs2 : XReg) : Statement (.amominD rd rs1 rs2) :=
  (mask_encR_1FFFF _ _ _ _ _ _).trans rfl
theorem amomaxD (rd : XReg) (rs1 : XReg) (rs2 : XReg) : Statement (.amomaxD rd rs1 rs2) :=
  (mask_encR_1FFFF _ _ _ _ _ _).trans rfl
theorem amominuD (rd : XReg) (rs1 : XReg) (rs2 : XReg) : Statement (.amominuD rd rs1 rs2) :=
  (mask_encR_1FFFF _ _ _ _ _ _).trans rfl
theorem amomaxuD (rd : XReg) (rs1 : XReg) (rs2 : XReg) : Statement (.amomaxuD rd rs1 rs2) :=
  (mask_encR_1FFFF _ _ _ _ _ _).trans rfl
theorem addi (rd : XReg) (rs1 : XReg) (imm : BitVec 12) : Statement (.addi rd rs1 imm) :=
  (mask_encI_3FF _ _ _ _ _).trans rfl
theorem slti (rd : XReg) (rs1 : XReg) (imm : BitVec 12) : Statement (.slti rd rs1 imm) :=
  (mask_encI_3FF _ _ _ _ _).trans rfl
theorem sltiu (rd : XReg) (rs1 : XReg) (imm : BitVec 12) : Statement (.sltiu rd rs1 imm) :=
  (mask_encI_3FF _ _ _ _ _).trans rfl
theorem andi (rd : XReg) (rs1 : XReg) (imm : BitVec 12) : Statement (.andi rd rs1 imm) :=
  (mask_encI_3FF _ _ _ _ _).trans rfl
theorem ori (rd : XReg) (rs1 : XReg) (imm : BitVec 12) : Statement (.ori rd rs1 imm) :=
  (mask_encI_3FF _ _ _ _ _).trans rfl
theorem xori (rd : XReg) (rs1 : XReg) (imm : BitVec 12) : Statement (.xori rd rs1 imm) :=
  (mask_encI_3FF _ _ _ _ _).trans rfl
theorem slli (rd : XReg) (rs1 : XReg) (shamt : BitVec 6) : Statement (.slli rd rs1 shamt) :=
  (mask_encShift_3F03FF _ _ _ _ _ _).trans rfl
theorem srli (rd : XReg) (rs1 : XReg) (shamt : BitVec 6) : Statement (.srli rd rs1 shamt) :=
  (mask_encShift_3F03FF _ _ _ _ _ _).trans rfl
theorem srai (rd : XReg) (rs1 : XReg) (shamt : BitVec 6) : Statement (.srai rd rs1 shamt) :=
  (mask_encShift_3F03FF _ _ _ _ _ _).trans rfl
theorem lui (rd : XReg) (imm : BitVec 20) : Statement (.lui rd imm) :=
  (mask_encL_7F _ _ _).trans rfl
theorem addiw (rd : XReg) (rs1 : XReg) (imm : BitVec 12) : Statement (.addiw rd rs1 imm) :=
  (mask_encI_3FF _ _ _ _ _).trans rfl
theorem slliw (rd : XReg) (rs1 : XReg) (shamtw : BitVec 5) : Statement (.slliw rd rs1 shamtw) :=
  (mask_encShiftW_3F83FF _ _ _ _ _ _).trans rfl
theorem srliw (rd : XReg) (rs1 : XReg) (shamtw : BitVec 5) : Statement (.srliw rd rs1 shamtw) :=
  (mask_encShiftW_3F83FF _ _ _ _ _ _).trans rfl
theorem sraiw (rd : XReg) (rs1 : XReg) (shamtw : BitVec 5) : Statement (.sraiw rd rs1 shamtw) :=
  (mask_encShiftW_3F83FF _ _ _ _ _ _).trans rfl
theorem add (rd : XReg) (rs1 : XReg) (rs2 : XReg) : Statement (.add rd rs1 rs2) :=
  (mask_encR_1FFFF _ _ _ _ _ _).trans rfl
theorem sub (rd : XReg) (rs1 : XReg) (rs2 : XReg) : Statement (.sub rd rs1 rs2) :=
  (mask_encR_1FFFF _ _ _ _ _ _).trans rfl
theorem slt (rd : XReg) (rs1 : XReg) (rs2 : XReg) : Statement (.slt rd rs1 rs2) :=
  (mask_encR_1FFFF _ _ _ _ _ _).trans rfl
theorem sltu (rd : XReg) (rs1 : XReg) (rs2 : XReg) : Statement (.sltu rd rs1 rs2) :=
  (mask_encR_1FFFF _ _ _ _ _ _).trans rfl
theorem and (rd : XReg) (rs1 : XReg) (rs2 : XReg) : Statement (.and rd rs1 rs2) :=
  (mask_encR_1FFFF _ _ _ _ _ _).trans rfl
theorem or (rd : XReg) (rs1 : XReg) (rs2 : XReg) : Statement (.or rd rs1 rs2) :=
  (mask_encR_1FFFF _ _ _ _ _ _).trans rfl
theorem xor (rd : XReg) (rs1 : XReg) (rs2 : XReg) : Statement (.xor rd rs1 rs2) :=
  (mask_encR_1FFFF _ _ _ _ _ _).trans rfl
theorem sll (rd : XReg) (rs1 : XReg) (rs2 : XReg) : Statement (.sll rd rs1 rs2) :=
  (mask_encR_1FFFF _ _ _ _ _ _).trans rfl
theorem srl (rd : XReg) (rs1 : XReg) (rs2 : XReg) : Statement (.srl rd rs1 rs2) :=
  (mask_encR_1FFFF _ _ _ _ _ _).trans rfl
theorem sra (rd : XReg) (rs1 : XReg) (rs2 : XReg) : Statement (.sra rd rs1 rs2) :=
  (mask_encR_1FFFF _ _ _ _ _ _).trans rfl
theorem addw (rd : XReg) (rs1 : XReg) (rs2 : XReg) : Statement (.addw rd rs1 rs2) :=
  (mask_encR_1FFFF _ _ _ _ _ _).trans rfl
theorem subw (rd : XReg) (rs1 : XReg) (rs2 : XReg) : Statement (.subw rd rs1 rs2) :=
  (mask_encR_1FFFF _ _ _ _ _ _).trans rfl
theorem sllw (rd : XReg) (rs1 : XReg) (rs2 : XReg) : Statement (.sllw rd rs1 rs2) :=
  (mask_encR_1FFFF _ _ _ _ _ _).trans rfl
theorem srlw (rd : XReg) (rs1 : XReg) (rs2 : XReg) : Statement (.srlw rd rs1 rs2) :=
  (mask_encR_1FFFF _ _ _ _ _ _).trans rfl
theorem sraw (rd : XReg) (rs1 : XReg) (rs2 : XReg) : Statement (.sraw rd rs1 rs2) :=
  (mask_encR_1FFFF _ _ _ _ _ _).trans rfl
theorem mul (rd : XReg) (rs1 : XReg) (rs2 : XReg) : Statement (.mul rd rs1 rs2) :=
  (mask_encR_1FFFF _ _ _ _ _ _).trans rfl
theorem mulh (rd : XReg) (rs1 : XReg) (rs2 : XReg) : Statement (.mulh rd rs1 rs2) :=
  (mask_encR_1FFFF _ _ _ _ _ _).trans rfl
theorem mulhu (rd : XReg) (rs1 : XReg) (rs2 : XReg) : Statement (.mulhu rd rs1 rs2) :=
  (mask_encR_1FFFF _ _ _ _ _ _).trans rfl
theorem mulhsu (rd : XReg) (rs1 : XReg) (rs2 : XReg) : Statement (.mulhsu rd rs1 rs2) :=
  (mask_encR_1FFFF _ _ _ _ _ _).trans rfl
theorem mulw (rd : XReg) (rs1 : XReg) (rs2 : XReg) : Statement (.mulw rd rs1 rs2) :=
  (mask_encR_1FFFF _ _ _ _ _ _).trans rfl
theorem div (rd : XReg) (rs1 : XReg) (rs2 : XReg) : Statement (.div rd rs1 rs2) :=
  (mask_encR_1FFFF _ _ _ _ _ _).trans rfl
theorem divu (rd : XReg) (rs1 : XReg) (rs2 : XReg) : Statement (.divu rd rs1 rs2) :=
  (mask_encR_1FFFF _ _ _ _ _ _).trans rfl
theorem rem (rd : XReg) (rs1 : XReg) (rs2 : XReg) : Statement (.rem rd rs1 rs2) :=
  (mask_encR_1FFFF _ _ _ _ _ _).trans rfl
theorem remu (rd : XReg) (rs1 : XReg) (rs2 : XReg) : Statement (.remu rd rs1 rs2) :=
  (mask_encR_1FFFF _ _ _ _ _ _).trans rfl
theorem divw (rd : XReg) (rs1 : XReg) (rs2 : XReg) : Statement (.divw rd rs1 rs2) :=
  (mask_encR_1FFFF _ _ _ _ _ _).trans rfl
theorem divuw (rd : XReg) (rs1 : XReg) (rs2 : XReg) : Statement (.divuw rd rs1 rs2) :=
  (mask_encR_1FFFF _ _ _ _ _ _).trans rfl
theorem remw (rd : XReg) (rs1 : XReg) (rs2 : XReg) : Statement (.remw rd rs1 rs2) :=
  (mask_encR_1FFFF _ _ _ _ _ _).trans rfl
theorem remuw (rd : XReg) (rs1 : XReg) (rs2 : XReg) : Statement (.remuw rd rs1 rs2) :=
  (mask_encR_1FFFF _ _ _ _ _ _).trans rfl
theorem j (off : BitVec 25) : Statement (.j off) :=
  (mask_encJ_7F _ _).trans rfl
theorem jal (off : BitVec 25) : Statement (.jal off) :=
  (mask_encJ_7F _ _).trans rfl
theorem jalrC (rd : XReg) (rs1 : XReg) (imm : BitVec 12) : Statement (.jalrC rd rs1 imm) :=
  (mask_encI_3FF _ _ _ _ _).trans rfl
theorem jalrR (rd : XReg) (rs1 : XReg) (imm : BitVec 12) : Statement (.jalrR rd rs1 imm) :=
  (mask_encI_3FF _ _ _ _ _).trans rfl
theorem jalrJ (rd : XReg) (rs1 : XReg) (imm : BitVec 12) : Statement (.jalrJ rd rs1 imm) :=
  (mask_encI_3FF _ _ _ _ _).trans rfl
theorem rdnpc (rd : XReg) : Statement (.rdnpc rd) :=
  (mask_encI_7FFFFFF _ _ _ _ _).trans rfl
theorem beq (rs1 : XReg) (rs2 : XReg) (imm : BitVec 12) : Statement (.beq rs1 rs2 imm) :=
  (mask_encB_3FF _ _ _ _ _).trans rfl
theorem bne (rs1 : XReg) (rs2 : XReg) (imm : BitVec 12) : Statement (.bne rs1 rs2 imm) :=
  (mask_encB_3FF _ _ _ _ _).trans rfl
theorem blt (rs1 : XReg) (rs2 : XReg) (imm : BitVec 12) : Statement (.blt rs1 rs2 imm) :=
  (mask_encB_3FF _ _ _ _ _).trans rfl
theorem bge (rs1 : XReg) (rs2 : XReg) (imm : BitVec 12) : Statement (.bge rs1 rs2 imm) :=
  (mask_encB_3FF _ _ _ _ _).trans rfl
theorem bltu (rs1 : XReg) (rs2 : XReg) (imm : BitVec 12) : Statement (.bltu rs1 rs2 imm) :=
  (mask_encB_3FF _ _ _ _ _).trans rfl
theorem bgeu (rs1 : XReg) (rs2 : XReg) (imm : BitVec 12) : Statement (.bgeu rs1 rs2 imm) :=
  (mask_encB_3FF _ _ _ _ _).trans rfl
theorem faddS (rd : FReg) (rs1 : FReg) (rs2 : FReg) (rm : RmField) : Statement (.faddS rd rs1 rs2 rm) :=
  (mask_encFp_1F1FF _ _ _ _ _ _ _).trans rfl
theorem fsubS (rd : FReg) (rs1 : FReg) (rs2 : FReg) (rm : RmField) : Statement (.fsubS rd rs1 rs2 rm) :=
  (mask_encFp_1F1FF _ _ _ _ _ _ _).trans rfl
theorem fmulS (rd : FReg) (rs1 : FReg) (rs2 : FReg) (rm : RmField) : Statement (.fmulS rd rs1 rs2 rm) :=
  (mask_encFp_1F1FF _ _ _ _ _ _ _).trans rfl
theorem fdivS (rd : FReg) (rs1 : FReg) (rs2 : FReg) (rm : RmField) : Statement (.fdivS rd rs1 rs2 rm) :=
  (mask_encFp_1F1FF _ _ _ _ _ _ _).trans rfl
theorem fsqrtS (rd : FReg) (rs1 : FReg) (rm : RmField) : Statement (.fsqrtS rd rs1 rm) :=
  (mask_encFp_3FF1FF _ _ _ _ _ _ _).trans rfl
theorem fminS (rd : FReg) (rs1 : FReg) (rs2 : FReg) : Statement (.fminS rd rs1 rs2) :=
  (mask_encFp_1FFFF _ _ _ _ _ _ _).trans rfl
theorem fmaxS (rd : FReg) (rs1 : FReg) (rs2 : FReg) : Statement (.fmaxS rd rs1 rs2) :=
  (mask_encFp_1FFFF _ _ _ _ _ _ _).trans rfl
theorem faddD (rd : FReg) (rs1 : FReg) (rs2 : FReg) (rm : RmField) : Statement (.faddD rd rs1 rs2 rm) :=
  (mask_encFp_1F1FF _ _ _ _ _ _ _).trans rfl
theorem fsubD (rd : FReg) (rs1 : FReg) (rs2 : FReg) (rm : RmField) : Statement (.fsubD rd rs1 rs2 rm) :=
  (mask_encFp_1F1FF _ _ _ _ _ _ _).trans rfl
theorem fmulD (rd : FReg) (rs1 : FReg) (rs2 : FReg) (rm : RmField) : Statement (.fmulD rd rs1 rs2 rm) :=
  (mask_encFp_1F1FF _ _ _ _ _ _ _).trans rfl
theorem fdivD (rd : FReg) (rs1 : FReg) (rs2 : FReg) (rm : RmField) : Statement (.fdivD rd rs1 rs2 rm) :=
  (mask_encFp_1F1FF _ _ _ _ _ _ _).trans rfl
theorem fsqrtD (rd : FReg) (rs1 : FReg) (rm : RmField) : Statement (.fsqrtD rd rs1 rm) :=
  (mask_encFp_3FF1FF _ _ _ _ _ _ _).trans rfl
theorem fminD (rd : FReg) (rs1 : FReg) (rs2 : FReg) : Statement (.fminD rd rs1 rs2) :=
  (mask_encFp_1FFFF _ _ _ _ _ _ _).trans rfl
theorem fmaxD (rd : FReg) (rs1 : FReg) (rs2 : FReg) : Statement (.fmaxD rd rs1 rs2) :=
  (mask_encFp_1FFFF _ _ _ _ _ _ _).trans rfl
theorem fmaddS (rd : FReg) (rs1 : FReg) (rs2 : FReg) (rs3 : FReg) (rm : RmField) : Statement (.fmaddS rd rs1 rs2 rs3 rm) :=
  (mask_encFp_1FF _ _ _ _ _ _ _).trans rfl
theorem fmsubS (rd : FReg) (rs1 : FReg) (rs2 : FReg) (rs3 : FReg) (rm : RmField) : Statement (.fmsubS rd rs1 rs2 rs3 rm) :=
  (mask_encFp_1FF _ _ _ _ _ _ _).trans rfl
theorem fnmsubS (rd : FReg) (rs1 : FReg) (rs2 : FReg) (rs3 : FReg) (rm : RmField) : Statement (.fnmsubS rd rs1 rs2 rs3 rm) :=
  (mask_encFp_1FF _ _ _ _ _ _ _).trans rfl
theorem fnmaddS (rd : FReg) (rs1 : FReg) (rs2 : FReg) (rs3 : FReg) (rm : RmField) : Statement (.fnmaddS rd rs1 rs2 rs3 rm) :=
  (mask_encFp_1FF _ _ _ _ _ _ _).trans rfl
theorem fmaddD (rd : FReg) (rs1 : FReg) (rs2 : FReg) (rs3 : FReg) (rm : RmField) : Statement (.fmaddD rd rs1 rs2 rs3 rm) :=
  (mask_encFp_1FF _ _ _ _ _ _ _).trans rfl
theorem fmsubD (rd : FReg) (rs1 : FReg) (rs2 : FReg) (rs3 : FReg) (rm : RmField) : Statement (.fmsubD rd rs1 rs2 rs3 rm) :=
  (mask_encFp_1FF _ _ _ _ _ _ _).trans rfl
theorem fnmsubD (rd : FReg) (rs1 : FReg) (rs2 : FReg) (rs3 : FReg) (rm : RmField) : Statement (.fnmsubD rd rs1 rs2 rs3 rm) :=
  (mask_encFp_1FF _ _ _ _ _ _ _).trans rfl
theorem fnmaddD (rd : FReg) (rs1 : FReg) (rs2 : FReg) (rs3 : FReg) (rm : RmField) : Statement (.fnmaddD rd rs1 rs2 rs3 rm) :=
  (mask_encFp_1FF _ _ _ _ _ _ _).trans rfl
theorem fcvtLS (rd : XReg) (rs1 : FReg) (rm : RmField) : Statement (.fcvtLS rd rs1 rm) :=
  (mask_encFp_3FF1FF _ _ _ _ _ _ _).trans rfl
theorem fcvtLuS (rd : XReg) (rs1 : FReg) (rm : RmField) : Statement (.fcvtLuS rd rs1 rm) :=
  (mask_encFp_3FF1FF _ _ _ _ _ _ _).trans rfl
theorem fcvtWS (rd : XReg) (rs1 : FReg) (rm : RmField) : Statement (.fcvtWS rd rs1 rm) :=
  (mask_encFp_3FF1FF _ _ _ _ _ _ _).trans rfl
theorem fcvtWuS (rd : XReg) (rs1 : FReg) (rm : RmField) : Statement (.fcvtWuS rd rs1 rm) :=
  (mask_encFp_3FF1FF _ _ _ _ _ _ _).trans rfl
theorem fcvtLD (rd : XReg) (rs1 : FReg) (rm : RmField) : Statement (.fcvtLD rd rs1 rm) :=
  (mask_encFp_3FF1FF _ _ _ _ _ _ _).trans rfl
theorem fcvtLuD (rd : XReg) (rs1 : FReg) (rm : RmField) : Statement (.fcvtLuD rd rs1 rm) :=
  (mask_encFp_3FF1FF _ _ _ _ _ _ _).trans rfl
theorem fcvtWD (rd : XReg) (rs1 : FReg) (rm : RmField) : Statement (.fcvtWD rd rs1 rm) :=
  (mask_encFp_3FF1FF _ _ _ _ _ _ _).trans rfl
theorem fcvtWuD (rd : XReg) (rs1 : FReg) (rm : RmField) : Statement (.fcvtWuD rd rs1 rm) :=
  (mask_encFp_3FF1FF _ _ _ _ _ _ _).trans rfl
theorem fcvtSL (rd : FReg) (rs1 : XReg) (rm : RmField) : Statement (.fcvtSL rd rs1 rm) :=
  (mask_encFp_3FF1FF _ _ _ _ _ _ _).trans rfl
theorem fcvtSLu (rd : FReg) (rs1 : XReg) (rm : RmField) : Statement (.fcvtSLu rd rs1 rm) :=
  (mask_encFp_3FF1FF _ _ _ _ _ _ _).trans rfl
theorem fcvtSW (rd : FReg) (rs1 : XReg) (rm : RmField) : Statement (.fcvtSW rd rs1 rm) :=
  (mask_encFp_3FF1FF _ _ _ _ _ _ _).trans rfl
theorem fcvtSWu (rd : FReg) (rs1 : XReg) (rm : RmField) : Statement (.fcvtSWu rd rs1 rm) :=
  (mask_encFp_3FF1FF _ _ _ _ _ _ _).trans rfl
theorem fcvtDL (rd : FReg) (rs1 : XReg) (rm : RmField) : Statement (.fcvtDL rd rs1 rm) :=
  (mask_encFp_3FF1FF _ _ _ _ _ _ _).trans rfl
theorem fcvtDLu (rd : FReg) (rs1 : XReg) (rm : RmField) : Statement (.fcvtDLu rd rs1 rm) :=
  (mask_encFp_3FF1FF _ _ _ _ _ _ _).trans rfl
theorem fcvtDW (rd : FReg) (rs1 : XReg) (rm : RmField) : Statement (.fcvtDW rd rs1 rm) :=
  (mask_encFp_3FF1FF _ _ _ _ _ _ _).trans rfl
theorem fcvtDWu (rd : FReg) (rs1 : XReg) (rm : RmField) : Statement (.fcvtDWu rd rs1 rm) :=
  (mask_encFp_3FF1FF _ _ _ _ _ _ _).trans rfl
theorem fcvtSD (rd : FReg) (rs1 : FReg) (rm : RmField) : Statement (.fcvtSD rd rs1 rm) :=
  (mask_encFp_3FF1FF _ _ _ _ _ _ _).trans rfl
theorem fcvtDS (rd : FReg) (rs1 : FReg) (rm : RmField) : Statement (.fcvtDS rd rs1 rm) :=
  (mask_encFp_3FF1FF _ _ _ _ _ _ _).trans rfl
theorem fsgnjS (rd : FReg) (rs1 : FReg) (rs2 : FReg) : Statement (.fsgnjS rd rs1 rs2) :=
  (mask_encFp_1FFFF _ _ _ _ _ _ _).trans rfl
theorem fsgnjnS (rd : FReg) (rs1 : FReg) (rs2 : FReg) : Statement (.fsgnjnS rd rs1 rs2) :=
  (mask_encFp_1FFFF _ _ _ _ _ _ _).trans rfl
theorem fsgnjxS (rd : FReg) (rs1 : FReg) (rs2 : FReg) : Statement (.fsgnjxS rd rs1 rs2) :=
  (mask_encFp_1FFFF _ _ _ _ _ _ _).trans rfl
theorem fsgnjD (rd : FReg) (rs1 : FReg) (rs2 : FReg) : Statement (.fsgnjD rd rs1 rs2) :=
  (mask_encFp_1FFFF _ _ _ _ _ _ _).trans rfl
theorem fsgnjnD (rd : FReg) (rs1 : FReg) (rs2 : FReg) : Statement (.fsgnjnD rd rs1 rs2) :=
  (mask_encFp_1FFFF _ _ _ _ _ _ _).trans rfl
theorem fsgnjxD (rd : FReg) (rs1 : FReg) (rs2 : FReg) : Statement (.fsgnjxD rd rs1 rs2) :=
  (mask_encFp_1FFFF _ _ _ _ _ _ _).trans rfl
theorem mftxS (rd : XReg) (rs2 : FReg) : Statement (.mftxS rd rs2) :=
  (mask_encFp_7C1FFFF _ _ _ _ _ _ _).trans rfl
theorem mftxD (rd : XReg) (rs2 : FReg) : Statement (.mftxD rd rs2) :=
  (mask_encFp_7C1FFFF _ _ _ _ _ _ _).trans rfl
theorem mxtfS (rd : FReg) (rs1 : XReg) : Statement (.mxtfS rd rs1) :=
  (mask_encFp_3FFFFF _ _ _ _ _ _ _).trans rfl
theorem mxtfD (rd : FReg) (rs1 : XReg) : Statement (.mxtfD rd rs1) :=
  (mask_encFp_3FFFFF _ _ _ _ _ _ _).trans rfl
theorem mffsr (rd : XReg) : Statement (.mffsr rd) :=
  (mask_encFp_7FFFFFF _ _ _ _ _ _ _).trans rfl
theorem mtfsr (rd : XReg) (rs1 : XReg) : Statement (.mtfsr rd rs1) :=
  (mask_encFp_3FFFFF _ _ _ _ _ _ _).trans rfl
theorem feqS (rd : XReg) (rs1 : FReg) (rs2 : FReg) : Statement (.feqS rd rs1 rs2) :=
  (mask_encFp_1FFFF _ _ _ _ _ _ _).trans rfl
theorem fltS (rd : XReg) (rs1 : FReg) (rs2 : FReg) : Statement (.fltS rd rs1 rs2) :=
  (mask_encFp_1FFFF _ _ _ _ _ _ _).trans rfl
theorem fleS (rd : XReg) (rs1 : FReg) (rs2 : FReg) : Statement (.fleS rd rs1 rs2) :=
  (mask_encFp_1FFFF _ _ _ _ _ _ _).trans rfl
theorem feqD (rd : XReg) (rs1 : FReg) (rs2 : FReg) : Statement (.feqD rd rs1 rs2) :=
  (mask_encFp_1FFFF _ _ _ _ _ _ _).trans rfl
theorem fltD (rd : XReg) (rs1 : FReg) (rs2 : FReg) : Statement (.fltD rd rs1 rs2) :=
  (mask_encFp_1FFFF _ _ _ _ _ _ _).trans rfl
theorem fleD (rd : XReg) (rs1 : FReg) (rs2 : FReg) : Statement (.fleD rd rs1 rs2) :=
  (mask_encFp_1FFFF _ _ _ _ _ _ _).trans rfl
theorem fence (rd : BitVec 5) (rs1 : BitVec 5) (imm : BitVec 12) : Statement (.fence rd rs1 imm) :=
  (mask_encI_3FF _ _ _ _ _).trans rfl
theorem fenceI (rd : BitVec 5) (rs1 : BitVec 5) (imm : BitVec 12) : Statement (.fenceI rd rs1 imm) :=
  (mask_encI_3FF _ _ _ _ _).trans rfl
theorem syscall : Statement (.syscall) :=
  (mask_encR_FFFFFFFF _ _ _ _ _ _).trans rfl
theorem brk : Statement (.brk) :=
  (mask_encR_FFFFFFFF _ _ _ _ _ _).trans rfl
theorem rdcycle (rd : XReg) : Statement (.rdcycle rd) :=
  (mask_encR_7FFFFFF _ _ _ _ _ _).trans rfl
theorem rdtime (rd : XReg) : Statement (.rdtime rd) :=
  (mask_encR_7FFFFFF _ _ _ _ _ _).trans rfl
theorem rdinstret (rd : XReg) : Statement (.rdinstret rd) :=
  (mask_encR_7FFFFFF _ _ _ _ _ _).trans rfl

end Laws.TableRow

end Sys2Proof
end

