-- ==== Sys2Proof/Tests/Slice0.lean ====
section
/-! SUPPORT. Tests: ill-formed instructions that the well-formedness check refuses, words of the spec and the
instructions they decode to, one step of each instruction on a vector of the spec, and for each statement with
hypotheses a concrete state that meets them. -/
namespace Sys2Proof.Tests
open Sys2Proof.Machine
set_option Elab.async false

/-! ### Helpers: the start state of the spec's vectors, values put into it, one step, and what is read from it -/

/-- pc 0x1000, and 0x1000 to 0x2FFF admitted for every kind of access. -/
def start (xl : Xlen) (e : Endian) : State :=
  let ram : Region := { base := 0x1000, size := 0x2000, fetch := true, read := true, write := true }
  { State.reset with params := { xlen := xl, endian := e, memValid := [ram] }, pc := 0x1000 }

def putX : List (Nat × Nat) → State → State
  | [], s => s
  | (r, v) :: l, s => putX l (s.setX (BitVec.ofNat 5 r) (BitVec.ofNat 64 v))

def putF (F : Fmt) : List (Nat × Nat) → State → State
  | [], s => s
  | (r, v) :: l, s => putF F l (s.setF F (BitVec.ofNat 5 r) (BitVec.ofNat 64 v))

def putFsr (v : Nat) (s : State) : State := s.writeFsr (BitVec.ofNat 32 v)

def putM : Nat → List Nat → State → State
  | _, [], s => s
  | a, b :: l, s => putM (a + 1) l { s with mem := Memory.write s.mem a (BitVec.ofNat 8 b) }

/-- One step with a word placed at the pc. -/
def run (s : State) (w : Nat) : Out := step (s.plantWord (BitVec.ofNat 32 w))

def readX (o : Out) (r : Nat) : Option Nat :=
  match o with
  | .next t => some (t.getX (BitVec.ofNat 5 r)).toNat
  | .fault _ => none
  | .refused _ => none

def readF (o : Out) (r : Nat) : Option FCell :=
  match o with
  | .next t => some (t.cellF (BitVec.ofNat 5 r))
  | .fault _ => none
  | .refused _ => none

def readFsr (o : Out) : Option Nat :=
  match o with
  | .next t => some t.fsrValue.toNat
  | .fault _ => none
  | .refused _ => none

def readPc (o : Out) : Option Nat :=
  match o with
  | .next t => some t.pcVal.toNat
  | .fault _ => none
  | .refused _ => none

def readM (o : Out) (a n : Nat) : Option (List Nat) :=
  match o with
  | .next t => some ((List.range n).map fun i => (t.readByte (a + i)).toNat)
  | .fault _ => none
  | .refused _ => none

/-- The outcome is this trap. -/
def traps (o : Out) (f : Fault) : Bool :=
  match o with
  | .next _ => false
  | .fault g => g == f
  | .refused _ => false

/-- Each word decodes to its instruction, and the instruction encodes to the word. -/
def decodes (l : List (Nat × Instr)) : Bool :=
  l.all fun p =>
    encode p.2 == BitVec.ofNat 32 p.1 &&
      match decodeWord (BitVec.ofNat 32 p.1) with
      | .ok i => i == p.2
      | .error _ => false

/-- Each word is refused. -/
def refuses (l : List (Nat × DecodeError)) : Bool :=
  l.all fun p =>
    match decodeWord (BitVec.ofNat 32 p.1) with
    | .ok _ => false
    | .error e => e == p.2

/-! ### Well-formedness: one ill-formed term for each check, and its well-formed neighbour -/

theorem test_wf_rv64_row_refused_on_rv32 :
    Instr.wellFormed .rv32 (.ld 1 2 0) = false ∧ Instr.wellFormed .rv64 (.ld 1 2 0) = true := by decide
theorem test_wf_sixth_shift_bit_refused_on_rv32 :
    Instr.wellFormed .rv32 (.slli 1 2 32) = false ∧ Instr.wellFormed .rv32 (.slli 1 2 31) = true ∧
      Instr.wellFormed .rv64 (.slli 1 2 32) = true := by decide
theorem test_wf_rounding_mode_5_refused :
    Instr.wellFormed .rv64 (.faddS 1 2 3 5) = false ∧ Instr.wellFormed .rv64 (.faddS 1 2 3 4) = true := by decide
theorem test_wf_rounding_mode_6_refused :
    Instr.wellFormed .rv32 (.fcvtDS 1 2 6) = false ∧ Instr.wellFormed .rv32 (.fcvtDS 1 2 7) = true := by decide

/-! ### Decoding, bit by bit: one word of each format, its fields as the spec draws them (R93 to R101) -/

theorem test_bits_R_add :
    decodeWord (0b00101#5 ++ 0b00110#5 ++ 0b00111#5 ++ 0b0000000#7 ++ 0b000#3 ++ 0b0110011#7) =
      .ok (.add 5 6 7) := by decide +kernel
theorem test_bits_R4_fmsubD :
    decodeWord (0b00001#5 ++ 0b00010#5 ++ 0b00011#5 ++ 0b00100#5 ++ 0b111#3 ++ 0b01#2 ++ 0b1000111#7) =
      .ok (.fmsubD 1 2 3 4 7) := by decide +kernel
theorem test_bits_I_lw :
    decodeWord (0b00101#5 ++ 0b00110#5 ++ 0b100000000001#12 ++ 0b010#3 ++ 0b0000011#7) =
      .ok (.lw 5 6 (-2047)) := by decide +kernel
theorem test_bits_B_sw :
    decodeWord (0b10000#5 ++ 0b00110#5 ++ 0b00111#5 ++ 0b0000001#7 ++ 0b010#3 ++ 0b0100011#7) =
      .ok (.sw 6 7 (-2047)) := by decide +kernel
theorem test_bits_B_bltu :
    decodeWord (0b00000#5 ++ 0b00110#5 ++ 0b00111#5 ++ 0b0000110#7 ++ 0b110#3 ++ 0b1100011#7) =
      .ok (.bltu 6 7 6) := by decide +kernel
theorem test_bits_L_lui :
    decodeWord (0b00101#5 ++ 0b10000000000000000001#20 ++ 0b0110111#7) = .ok (.lui 5 0x80001) := by decide +kernel
theorem test_bits_J_jal :
    decodeWord (0b1000000000000000000000001#25 ++ 0b1101111#7) = .ok (.jal 0x1000001) := by decide +kernel
theorem test_bits_shift_srai :
    decodeWord (0b00101#5 ++ 0b00110#5 ++ 0b000001#6 ++ 0b100001#6 ++ 0b101#3 ++ 0b0010011#7) =
      .ok (.srai 5 6 33) := by decide +kernel
theorem test_bits_shiftw_sraiw :
    decodeWord (0b00101#5 ++ 0b00110#5 ++ 0b000001#6 ++ 0b0#1 ++ 0b11111#5 ++ 0b101#3 ++ 0b0011011#7) =
      .ok (.sraiw 5 6 31) := by decide +kernel
theorem test_bits_fp_fcvt_lu_d :
    decodeWord (0b00101#5 ++ 0b00010#5 ++ 0b00000#5 ++ 0b01001#5 ++ 0b001#3 ++ 0b01#2 ++ 0b1010011#7) =
      .ok (.fcvtLuD 5 2 1) := by decide +kernel
theorem test_bits_amo_maxu_d :
    decodeWord (0b00101#5 ++ 0b00110#5 ++ 0b00111#5 ++ 0b0000111#7 ++ 0b011#3 ++ 0b0101011#7) =
      .ok (.amomaxuD 5 6 7) := by decide +kernel
theorem test_bits_fence_ignored_bits :
    decodeWord (0b11111#5 ++ 0b11111#5 ++ 0b111111111111#12 ++ 0b010#3 ++ 0b0101111#7) =
      .ok (.fence 31 31 0xFFF) := by decide +kernel

/-- Words that no row matches (R108 to R111, R115, R216, R318, R408, R432, R446). -/
theorem test_decode_refuses : refuses [
    (0x00000000, .compressed), (0x298E0032, .compressed), (0xFFFFFFFF, .longer), (0x0000001F, .longer),
    (0x0000000B, .unassignedOpcode), (0x00000073, .unassignedOpcode), (0x00000383, .unassignedFunction),
    (0x00000223, .unassignedFunction), (0x0000202B, .unassignedFunction), (0x0000011B, .unassignedFunction),
    (0x298E8033, .unassignedFunction), (0x08860153, .reservedFmt), (0x088601C3, .reservedFmt),
    (0x0000002F, .unassignedFunction), (0x08000077, .unassignedFunction), (0x00400277, .unassignedFunction),
    (0x0001D253, .unassignedFunction), (0x0000829B, .unassignedFunction)] = true := by decide +kernel

/-- A buffer that ends inside a word is refused by name. -/
theorem test_decode_truncated : decodeBytes .little [0x33, 0x00, 0x8E] = .error .truncated := by decide +kernel
/-- The byte images of 0x298E0033 in both byte orders (R54). -/
theorem test_word_bytes :
    wordBytes .little 0x298E0033 = [0x33, 0x00, 0x8E, 0x29] ∧ wordBytes .big 0x298E0033 = [0x00, 0x33, 0x29, 0x8E] := by
  decide +kernel
/-- The host's reading of a table word. -/
theorem test_decodeTableWord : decodeTableWord 32 0x298E0033 = some (.add 5 6 7) ∧ decodeTableWord 32 0 = none := by
  decide +kernel
/-- The first step after reset runs the placed word. -/
theorem test_withFetchWord : readX (step (State.reset.withFetchWord 32 0x08001413)) 1 = some 5 := by decide +kernel

/-! ### Decoding: the words that the spec's example lines write out, one or more for every row (R108) -/

/-- Example words of 40_load_store.md. -/
theorem test_decode_loads_stores : decodes [
    (0x29BFFC03, .lb 5 6 (-1)), (0x29800883, .lh 5 6 2), (0x29801103, .lw 5 6 4), (0x29802183, .ld 5 6 8),
    (0x29BFFE03, .lbu 5 6 (-1)), (0x29800A83, .lhu 5 6 2), (0x29801303, .lwu 5 6 4), (0xF98FFC23, .sb 6 7 (-1)),
    (0x00C400A3, .sh 3 2 0), (0x818E0123, .sw 6 7 (-2048)), (0x018E21A3, .sd 6 7 8), (0x09801107, .flw 1 6 4),
    (0x09802187, .fld 1 6 8), (0x01841127, .fsw 6 2 4), (0x018421A7, .fsd 6 2 8)] = true := by
  decide +kernel

/-- Example words of 41_amo.md. -/
theorem test_decode_amos : decodes [
    (0x298E012B, .amoaddW 5 6 7), (0x298E052B, .amoswapW 5 6 7), (0x298E092B, .amoandW 5 6 7),
    (0x298E0D2B, .amoorW 5 6 7), (0x298E112B, .amominW 5 6 7), (0x298E152B, .amomaxW 5 6 7),
    (0x298E192B, .amominuW 5 6 7), (0x298E1D2B, .amomaxuW 5 6 7), (0x298E01AB, .amoaddD 5 6 7),
    (0x298E05AB, .amoswapD 5 6 7), (0x298E09AB, .amoandD 5 6 7), (0x298E0DAB, .amoorD 5 6 7),
    (0x298E11AB, .amominD 5 6 7), (0x298E15AB, .amomaxD 5 6 7), (0x298E19AB, .amominuD 5 6 7),
    (0x298E1DAB, .amomaxuD 5 6 7)] = true := by
  decide +kernel

/-- Example words of 42_integer_imm.md. -/
theorem test_decode_int_imm : decodes [
    (0x29BFFC13, .addi 5 6 (-1)), (0x29BFFD13, .slti 5 6 (-1)), (0x29BFFD93, .sltiu 5 6 (-1)),
    (0x2983C393, .andi 5 6 0x0F0), (0x2983C313, .ori 5 6 0x0F0), (0x29BFFE13, .xori 5 6 (-1)),
    (0x2980FC93, .slli 5 6 63), (0x29801293, .srli 5 6 4), (0x29811293, .srai 5 6 4),
    (0x2891A2B7, .lui 5 0x12345), (0x2980041B, .addiw 5 6 1), (0x29807C9B, .slliw 5 6 31),
    (0x2980129B, .srliw 5 6 4), (0x2981129B, .sraiw 5 6 4)] = true := by
  decide +kernel

/-- Example words of 43_integer_reg.md. -/
theorem test_decode_int_reg_1 : decodes [
    (0x298E0033, .add 5 6 7), (0x298F0033, .sub 5 6 7), (0x298E0133, .slt 5 6 7), (0x298E01B3, .sltu 5 6 7),
    (0x298E03B3, .and 5 6 7), (0x298E0333, .or 5 6 7), (0x298E0233, .xor 5 6 7), (0x298E00B3, .sll 5 6 7),
    (0x298E02B3, .srl 5 6 7), (0x298F02B3, .sra 5 6 7), (0x298E003B, .addw 5 6 7), (0x298F003B, .subw 5 6 7),
    (0x298E00BB, .sllw 5 6 7), (0x298E02BB, .srlw 5 6 7), (0x298F02BB, .sraw 5 6 7), (0x298E0433, .mul 5 6 7)] = true := by
  decide +kernel

/-- Example words of 43_integer_reg.md. -/
theorem test_decode_int_reg_2 : decodes [
    (0x298E04B3, .mulh 5 6 7), (0x298E05B3, .mulhu 5 6 7), (0x298E0533, .mulhsu 5 6 7),
    (0x298E043B, .mulw 5 6 7), (0x298E0633, .div 5 6 7), (0x298E06B3, .divu 5 6 7), (0x298E0733, .rem 5 6 7),
    (0x298E07B3, .remu 5 6 7), (0x298E063B, .divw 5 6 7), (0x298E06BB, .divuw 5 6 7), (0x298E073B, .remw 5 6 7),
    (0x298E07BB, .remuw 5 6 7)] = true := by
  decide +kernel

/-- Example words of 44_control_transfer.md. -/
theorem test_decode_control : decodes [
    (0xFFFFFF67, .j (-2)), (0xFFFFFE6F, .jal (-4)), (0x09BFF06B, .jalrC 1 6 (-4)), (0x098020EB, .jalrR 1 6 8),
    (0x0980216B, .jalrJ 1 6 8), (0x2800026B, .rdnpc 5), (0xF98FF063, .beq 6 7 (-4)),
    (0xF98FF0E3, .bne 6 7 (-4)), (0xF98FF263, .blt 6 7 (-4)), (0xF98FF2E3, .bge 6 7 (-4)),
    (0xF98FF363, .bltu 6 7 (-4)), (0xF98FF3E3, .bgeu 6 7 (-4))] = true := by
  decide +kernel

/-- Example words of 45_fp_compute.md. -/
theorem test_decode_fp_compute_1 : decodes [
    (0x08860053, .faddS 1 2 3 0), (0x08861053, .fsubS 1 2 3 0), (0x08862053, .fmulS 1 2 3 0),
    (0x08863053, .fdivS 1 2 3 0), (0x08804053, .fsqrtS 1 2 0), (0x08878053, .fminS 1 2 3),
    (0x08879053, .fmaxS 1 2 3), (0x088600D3, .faddD 1 2 3 0), (0x088610D3, .fsubD 1 2 3 0),
    (0x088620D3, .fmulD 1 2 3 0), (0x088630D3, .fdivD 1 2 3 0), (0x088040D3, .fsqrtD 1 2 0),
    (0x088780D3, .fminD 1 2 3), (0x088790D3, .fmaxD 1 2 3), (0x08864043, .fmaddS 1 2 3 4 0),
    (0x08864047, .fmsubS 1 2 3 4 0)] = true := by
  decide +kernel

/-- Example words of 45_fp_compute.md. -/
theorem test_decode_fp_compute_2 : decodes [
    (0x0886404B, .fnmsubS 1 2 3 4 0), (0x0886404F, .fnmaddS 1 2 3 4 0), (0x088640C3, .fmaddD 1 2 3 4 0),
    (0x088640C7, .fmsubD 1 2 3 4 0), (0x088640CB, .fnmsubD 1 2 3 4 0), (0x088640CF, .fnmaddD 1 2 3 4 0)] = true := by
  decide +kernel

/-- Example words of 46_fp_convert_move_compare.md. -/
theorem test_decode_fp_convert_1 : decodes [
    (0x28808253, .fcvtLS 5 2 1), (0x28809253, .fcvtLuS 5 2 1), (0x2880A253, .fcvtWS 5 2 1),
    (0x2880B253, .fcvtWuS 5 2 1), (0x288082D3, .fcvtLD 5 2 1), (0x288092D3, .fcvtLuD 5 2 1),
    (0x2880A2D3, .fcvtWD 5 2 1), (0x2880B2D3, .fcvtWuD 5 2 1), (0x0980C053, .fcvtSL 1 6 0),
    (0x0980D053, .fcvtSLu 1 6 0), (0x0980E053, .fcvtSW 1 6 0), (0x0980F053, .fcvtSWu 1 6 0),
    (0x0980C0D3, .fcvtDL 1 6 0), (0x0980D0D3, .fcvtDLu 1 6 0), (0x0980E0D3, .fcvtDW 1 6 0),
    (0x0980F0D3, .fcvtDWu 1 6 0)] = true := by
  decide +kernel

/-- Example words of 46_fp_convert_move_compare.md. -/
theorem test_decode_fp_convert_2 : decodes [
    (0x08811053, .fcvtSD 1 2 0), (0x088100D3, .fcvtDS 1 2 0), (0x08845053, .fsgnjS 1 2 2),
    (0x08846053, .fsgnjnS 1 2 2), (0x08847053, .fsgnjxS 1 2 2), (0x088650D3, .fsgnjD 1 2 3),
    (0x088660D3, .fsgnjnD 1 2 3), (0x088670D3, .fsgnjxD 1 2 3), (0x2805C053, .mftxS 5 2),
    (0x2805C0D3, .mftxD 5 2), (0x0981E053, .mxtfS 1 6), (0x0981E0D3, .mxtfD 1 6), (0x2801D053, .mffsr 5),
    (0x2981F053, .mtfsr 5 6), (0x28875053, .feqS 5 2 3), (0x28876053, .fltS 5 2 3)] = true := by
  decide +kernel

/-- Example words of 46_fp_convert_move_compare.md. -/
theorem test_decode_fp_convert_3 : decodes [
    (0x28877053, .fleS 5 2 3), (0x288750D3, .feqD 5 2 3), (0x288760D3, .fltD 5 2 3), (0x288770D3, .fleD 5 2 3)] = true := by
  decide +kernel

/-- Example words of 47_fence.md. -/
theorem test_decode_fence : decodes [
    (0x0000012F, .fence 0 0 0), (0x000000AF, .fenceI 0 0 0)] = true := by
  decide +kernel

/-- Example words of 48_system.md. -/
theorem test_decode_system : decodes [
    (0x00000077, .syscall), (0x000000F7, .brk), (0x28000277, .rdcycle 5), (0x28000677, .rdtime 5),
    (0x28000A77, .rdinstret 5)] = true := by
  decide +kernel

/-! ### One step of each instruction: the vectors of the spec's 95_test_vectors.md and 96_test_vectors_fp.md -/

/-- Vectors T2, T6, T17, T20, T3. -/
theorem test_step_lb_lh_lw_ld_lbu :
    readX (run (putM 0x2000 [0xF0, 0xE1, 0xD2, 0xC3, 0xB4, 0xA5, 0x96, 0x87] (putX [(6, 0x2000)] (start .rv64 .big))) 0x29800403) 5 = some 0xFFFFFFFFFFFFFFE1 ∧
    readX (run (putM 0x2000 [0xF0, 0xE1, 0xD2, 0xC3, 0xB4, 0xA5, 0x96, 0x87] (putX [(6, 0x2000)] (start .rv32 .big))) 0x29800083) 5 = some 0xFFFFF0E1 ∧
    readX (run (putM 0x2000 [0xF0, 0xE1, 0xD2, 0xC3, 0xB4, 0xA5, 0x96, 0x87] (putX [(6, 0x2000)] (start .rv64 .little))) 0x29800103) 5 = some 0xFFFFFFFFC3D2E1F0 ∧
    readX (run (putM 0x2000 [0xF0, 0xE1, 0xD2, 0xC3, 0xB4, 0xA5, 0x96, 0x87] (putX [(6, 0x2000)] (start .rv64 .big))) 0x29800183) 5 = some 0xF0E1D2C3B4A59687 ∧
    readX (run (putM 0x2000 [0xF0, 0xE1, 0xD2, 0xC3, 0xB4, 0xA5, 0x96, 0x87] (putX [(6, 0x2000)] (start .rv32 .big))) 0x29800203) 5 = some 0xF0 := by
  decide +kernel

/-- Vectors T8, T18, T29, E1.2, T36. -/
theorem test_step_lhu_lwu_sb_sh_sw :
    readX (run (putM 0x2000 [0xF0, 0xE1, 0xD2, 0xC3, 0xB4, 0xA5, 0x96, 0x87] (putX [(6, 0x2000)] (start .rv32 .big))) 0x29800283) 5 = some 0xF0E1 ∧
    readX (run (putM 0x2000 [0xF0, 0xE1, 0xD2, 0xC3, 0xB4, 0xA5, 0x96, 0x87] (putX [(6, 0x2000)] (start .rv64 .little))) 0x29800303) 5 = some 0xC3D2E1F0 ∧
    readM (run (putX [(6, 0x2000), (7, 0x12345678)] (start .rv32 .big)) 0x018E0023) 0x2000 1 = some [0x78] ∧
    readM (run (putX [(2, 0x5000A813), (3, 0x2000)] (start .rv32 .big)) 0x00C400A3) 0x2000 2 = some [0xA8, 0x13] ∧
    readM (run (putX [(6, 0x2000), (7, 0xAABBCCDD12345678)] (start .rv64 .little)) 0x018E0123) 0x2000 4 = some [0x78, 0x56, 0x34, 0x12] := by
  decide +kernel

/-- Vectors T38, T44, T46, T49, T51. -/
theorem test_step_sd_flw_fld_fsw_fsd :
    readM (run (putX [(6, 0x2000), (7, 0x1122334455667788)] (start .rv64 .big)) 0x018E21A3) 0x2008 8 = some [0x11, 0x22, 0x33, 0x44, 0x55, 0x66, 0x77, 0x88] ∧
    readF (run (putM 0x2004 [0x3F, 0x80, 0, 0] (putX [(6, 0x2000)] (start .rv32 .big))) 0x09801107) 1 = some (.s 0x3F800000) ∧
    readF (run (putM 0x2008 [0x3F, 0xF0, 0, 0, 0, 0, 0, 0] (putX [(6, 0x2000)] (start .rv64 .big))) 0x09802187) 1 = some (.d 0x3FF0000000000000) ∧
    readM (run (putF .s [(2, 0xC0490FDB)] (putX [(6, 0x2000)] (start .rv32 .big))) 0x01841127) 0x2004 4 = some [0xC0, 0x49, 0xF, 0xDB] ∧
    readM (run (putF .d [(2, 0x400921FB54442D18)] (putX [(6, 0x2000)] (start .rv32 .big))) 0x018421A7) 0x2008 8 = some [0x40, 9, 0x21, 0xFB, 0x54, 0x44, 0x2D, 0x18] := by
  decide +kernel

/-- Vectors T62, T54, T55, T56, T57. -/
theorem test_step_amoaddW_amoswapW_amoandW_amoorW_amominW :
    readX (run (putM 0x2000 [0xF0, 0xFF, 0xFF, 0xFF, 0xAA, 0xAA, 0xAA, 0xAA] (putX [(6, 0x2000), (7, 0xDEADBEEF00000020)] (start .rv64 .little))) 0x298E012B) 5 = some 0xFFFFFFFFFFFFFFF0 ∧
    readM (run (putM 0x2000 [0xF0, 0xFF, 0xFF, 0xFF, 0xAA, 0xAA, 0xAA, 0xAA] (putX [(6, 0x2000), (7, 0xDEADBEEF00000020)] (start .rv64 .little))) 0x298E012B) 0x2000 4 = some [0x10, 0, 0, 0] ∧
    readX (run (putM 0x2000 [0xF0, 0xFF, 0xFF, 0xFF] (putX [(6, 0x2000), (7, 0x20)] (start .rv32 .little))) 0x298E052B) 5 = some 0xFFFFFFF0 ∧
    readM (run (putM 0x2000 [0xF0, 0xFF, 0xFF, 0xFF] (putX [(6, 0x2000), (7, 0x20)] (start .rv32 .little))) 0x298E052B) 0x2000 4 = some [0x20, 0, 0, 0] ∧
    readX (run (putM 0x2000 [0xF0, 0xFF, 0xFF, 0xFF] (putX [(6, 0x2000), (7, 0x20)] (start .rv32 .little))) 0x298E092B) 5 = some 0xFFFFFFF0 ∧
    readM (run (putM 0x2000 [0xF0, 0xFF, 0xFF, 0xFF] (putX [(6, 0x2000), (7, 0x20)] (start .rv32 .little))) 0x298E092B) 0x2000 4 = some [0x20, 0, 0, 0] ∧
    readX (run (putM 0x2000 [0xF0, 0xFF, 0xFF, 0xFF] (putX [(6, 0x2000), (7, 0x20)] (start .rv32 .little))) 0x298E0D2B) 5 = some 0xFFFFFFF0 ∧
    readX (run (putM 0x2000 [0xF0, 0xFF, 0xFF, 0xFF] (putX [(6, 0x2000), (7, 0x20)] (start .rv32 .little))) 0x298E112B) 5 = some 0xFFFFFFF0 := by
  decide +kernel

/-- Vectors T58, T63, T60, T70, T71. -/
theorem test_step_amomaxW_amominuW_amomaxuW_amoaddD_amoswapD :
    readX (run (putM 0x2000 [0xF0, 0xFF, 0xFF, 0xFF] (putX [(6, 0x2000), (7, 0x20)] (start .rv32 .little))) 0x298E152B) 5 = some 0xFFFFFFF0 ∧
    readM (run (putM 0x2000 [0xF0, 0xFF, 0xFF, 0xFF] (putX [(6, 0x2000), (7, 0x20)] (start .rv32 .little))) 0x298E152B) 0x2000 4 = some [0x20, 0, 0, 0] ∧
    readX (run (putM 0x2000 [0xF0, 0xFF, 0xFF, 0xFF] (putX [(6, 0x2000), (7, 0xFFFFFFFF00000020)] (start .rv64 .little))) 0x298E192B) 5 = some 0xFFFFFFFFFFFFFFF0 ∧
    readM (run (putM 0x2000 [0xF0, 0xFF, 0xFF, 0xFF] (putX [(6, 0x2000), (7, 0xFFFFFFFF00000020)] (start .rv64 .little))) 0x298E192B) 0x2000 4 = some [0x20, 0, 0, 0] ∧
    readX (run (putM 0x2000 [0xF0, 0xFF, 0xFF, 0xFF] (putX [(6, 0x2000), (7, 0x20)] (start .rv32 .little))) 0x298E1D2B) 5 = some 0xFFFFFFF0 ∧
    readX (run (putM 0x2000 [0xF0, 0xFF, 0xFF, 0xFF, 0xFF, 0xFF, 0xFF, 0xFF] (putX [(6, 0x2000), (7, 0x20)] (start .rv64 .little))) 0x298E01AB) 5 = some 0xFFFFFFFFFFFFFFF0 ∧
    readM (run (putM 0x2000 [0xF0, 0xFF, 0xFF, 0xFF, 0xFF, 0xFF, 0xFF, 0xFF] (putX [(6, 0x2000), (7, 0x20)] (start .rv64 .little))) 0x298E01AB) 0x2000 8 = some [0x10, 0, 0, 0, 0, 0, 0, 0] ∧
    readX (run (putM 0x2000 [0xF0, 0xFF, 0xFF, 0xFF, 0xFF, 0xFF, 0xFF, 0xFF] (putX [(6, 0x2000), (7, 0x20)] (start .rv64 .little))) 0x298E05AB) 5 = some 0xFFFFFFFFFFFFFFF0 ∧
    readM (run (putM 0x2000 [0xF0, 0xFF, 0xFF, 0xFF, 0xFF, 0xFF, 0xFF, 0xFF] (putX [(6, 0x2000), (7, 0x20)] (start .rv64 .little))) 0x298E05AB) 0x2000 8 = some [0x20, 0, 0, 0, 0, 0, 0, 0] := by
  decide +kernel

/-- Vectors T72, T73, T74, T75, T76. -/
theorem test_step_amoandD_amoorD_amominD_amomaxD_amominuD :
    readX (run (putM 0x2000 [0xF0, 0xFF, 0xFF, 0xFF, 0xFF, 0xFF, 0xFF, 0xFF] (putX [(6, 0x2000), (7, 0x20)] (start .rv64 .little))) 0x298E09AB) 5 = some 0xFFFFFFFFFFFFFFF0 ∧
    readM (run (putM 0x2000 [0xF0, 0xFF, 0xFF, 0xFF, 0xFF, 0xFF, 0xFF, 0xFF] (putX [(6, 0x2000), (7, 0x20)] (start .rv64 .little))) 0x298E09AB) 0x2000 8 = some [0x20, 0, 0, 0, 0, 0, 0, 0] ∧
    readX (run (putM 0x2000 [0xF0, 0xFF, 0xFF, 0xFF, 0xFF, 0xFF, 0xFF, 0xFF] (putX [(6, 0x2000), (7, 0x20)] (start .rv64 .little))) 0x298E0DAB) 5 = some 0xFFFFFFFFFFFFFFF0 ∧
    readX (run (putM 0x2000 [0xF0, 0xFF, 0xFF, 0xFF, 0xFF, 0xFF, 0xFF, 0xFF] (putX [(6, 0x2000), (7, 0x20)] (start .rv64 .little))) 0x298E11AB) 5 = some 0xFFFFFFFFFFFFFFF0 ∧
    readX (run (putM 0x2000 [0xF0, 0xFF, 0xFF, 0xFF, 0xFF, 0xFF, 0xFF, 0xFF] (putX [(6, 0x2000), (7, 0x20)] (start .rv64 .little))) 0x298E15AB) 5 = some 0xFFFFFFFFFFFFFFF0 ∧
    readM (run (putM 0x2000 [0xF0, 0xFF, 0xFF, 0xFF, 0xFF, 0xFF, 0xFF, 0xFF] (putX [(6, 0x2000), (7, 0x20)] (start .rv64 .little))) 0x298E15AB) 0x2000 8 = some [0x20, 0, 0, 0, 0, 0, 0, 0] ∧
    readX (run (putM 0x2000 [0xF0, 0xFF, 0xFF, 0xFF, 0xFF, 0xFF, 0xFF, 0xFF] (putX [(6, 0x2000), (7, 0x20)] (start .rv64 .little))) 0x298E19AB) 5 = some 0xFFFFFFFFFFFFFFF0 ∧
    readM (run (putM 0x2000 [0xF0, 0xFF, 0xFF, 0xFF, 0xFF, 0xFF, 0xFF, 0xFF] (putX [(6, 0x2000), (7, 0x20)] (start .rv64 .little))) 0x298E19AB) 0x2000 8 = some [0x20, 0, 0, 0, 0, 0, 0, 0] := by
  decide +kernel

/-- Vectors T77. -/
theorem test_step_amomaxuD :
    readX (run (putM 0x2000 [0xF0, 0xFF, 0xFF, 0xFF, 0xFF, 0xFF, 0xFF, 0xFF] (putX [(6, 0x2000), (7, 0x20)] (start .rv64 .little))) 0x298E1DAB) 5 = some 0xFFFFFFFFFFFFFFF0 := by
  decide +kernel

/-- Vectors T84, E4.1, T98, T99, T101. -/
theorem test_step_addi_slti_sltiu_andi_ori :
    readX (run (putX [(6, 0)] (start .rv64 .big)) 0x29BFFC13) 5 = some 0xFFFFFFFFFFFFFFFF ∧
    readX (run (putX [(6, 0xFFFFFFFE)] (start .rv32 .big)) 0x29BFFD13) 5 = some 1 ∧
    readX (run (putX [(6, 0xFFFFFFFF)] (start .rv64 .big)) 0x29BFFD93) 5 = some 1 ∧
    readX (run (putX [(6, 0x12345678)] (start .rv32 .big)) 0x2983C393) 5 = some 0x70 ∧
    readX (run (putX [(6, 0x12345678)] (start .rv32 .big)) 0x2983C313) 5 = some 0x123456F8 := by
  decide +kernel

/-- Vectors E3.2, T106, T113, T117, T123. -/
theorem test_step_xori_slli_srli_srai_lui :
    readX (run (putX [(6, 0)] (start .rv64 .big)) 0x29BFFE13) 5 = some 0xFFFFFFFFFFFFFFFF ∧
    readX (run (putX [(6, 0x12345678)] (start .rv64 .big)) 0x29801093) 5 = some 0x123456780 ∧
    readX (run (putX [(6, 0xFFFFFFFF87654321)] (start .rv64 .big)) 0x29801293) 5 = some 0xFFFFFFFF8765432 ∧
    readX (run (putX [(6, 0x8000000000000000)] (start .rv64 .big)) 0x2981FE93) 5 = some 0xFFFFFFFFFFFFFFFF ∧
    readX (run (start .rv64 .big) 0x2C000037) 5 = some 0xFFFFFFFF80000000 := by
  decide +kernel

/-- Vectors E2.1, T130, T132, T134. -/
theorem test_step_addiw_slliw_srliw_sraiw :
    readX (run (putX [(6, 0x123456789ABCDEF0)] (start .rv64 .big)) 0x2980001B) 5 = some 0xFFFFFFFF9ABCDEF0 ∧
    readX (run (putX [(6, 0x18000001)] (start .rv64 .big)) 0x2980109B) 5 = some 0xFFFFFFFF80000010 ∧
    readX (run (putX [(6, 0xFFFFFFFF87654321)] (start .rv64 .big)) 0x2980129B) 5 = some 0x8765432 ∧
    readX (run (putX [(6, 0x87654321)] (start .rv64 .big)) 0x2981129B) 5 = some 0xFFFFFFFFF8765432 := by
  decide +kernel

/-- Vectors T140, T142, T144, T147, T150. -/
theorem test_step_add_sub_slt_sltu_and :
    readX (run (putX [(6, 0xFFFFFFFF), (7, 2)] (start .rv64 .big)) 0x298E0033) 5 = some 0x100000001 ∧
    readX (run (putX [(6, 0x80000000), (7, 1)] (start .rv32 .big)) 0x298F0033) 5 = some 0x7FFFFFFF ∧
    readX (run (putX [(6, 0xFFFFFFFF), (7, 1)] (start .rv32 .big)) 0x298E0133) 5 = some 1 ∧
    readX (run (putX [(6, 0xFFFFFFFF), (7, 1)] (start .rv32 .big)) 0x298E01B3) 5 = some 0 ∧
    readX (run (putX [(6, 0x12345678), (7, 0xF0F0F0F)] (start .rv32 .big)) 0x298E03B3) 5 = some 0x2040608 := by
  decide +kernel

/-- Vectors T151, T152, T158, T160, T164. -/
theorem test_step_or_xor_sll_srl_sra :
    readX (run (putX [(6, 0x12345678), (7, 0xF0F0F0F)] (start .rv32 .big)) 0x298E0333) 5 = some 0x1F3F5F7F ∧
    readX (run (putX [(6, 0x12345678), (7, 0xF0F0F0F)] (start .rv32 .big)) 0x298E0233) 5 = some 0x1D3B5977 ∧
    readX (run (putX [(6, 1), (7, 0xFFFFFFE1)] (start .rv32 .big)) 0x298E00B3) 5 = some 2 ∧
    readX (run (putX [(6, 0xFFFFFFFF80000000), (7, 4)] (start .rv64 .big)) 0x298E02B3) 5 = some 0xFFFFFFFF8000000 ∧
    readX (run (putX [(6, 0x8000000000000000), (7, 0x3F)] (start .rv64 .big)) 0x298F02B3) 5 = some 0xFFFFFFFFFFFFFFFF := by
  decide +kernel

/-- Vectors T165, T168, T169, T171, T173. -/
theorem test_step_addw_subw_sllw_srlw_sraw :
    readX (run (putX [(6, 0x1FFFFFFFF), (7, 2)] (start .rv64 .big)) 0x298E003B) 5 = some 1 ∧
    readX (run (putX [(6, 0xABCD000080000000), (7, 1)] (start .rv64 .big)) 0x298F003B) 5 = some 0x7FFFFFFF ∧
    readX (run (putX [(6, 1), (7, 0x1F)] (start .rv64 .big)) 0x298E00BB) 5 = some 0xFFFFFFFF80000000 ∧
    readX (run (putX [(6, 0xFFFFFFFF80000000), (7, 4)] (start .rv64 .big)) 0x298E02BB) 5 = some 0x8000000 ∧
    readX (run (putX [(6, 0x80000000), (7, 4)] (start .rv64 .big)) 0x298F02BB) 5 = some 0xFFFFFFFFF8000000 := by
  decide +kernel

/-- Vectors T179, T183, T186, T189, E6.4. -/
theorem test_step_mul_mulh_mulhu_mulhsu_mulw :
    readX (run (putX [(6, 0xFFFFFFFF80000000), (7, 0xFFFFFFFFFFFFFFFE)] (start .rv64 .big)) 0x298E0433) 5 = some 0x100000000 ∧
    readX (run (putX [(6, 0x8000000000000000), (7, 0x8000000000000000)] (start .rv64 .big)) 0x298E04B3) 5 = some 0x4000000000000000 ∧
    readX (run (putX [(6, 0xFFFFFFFFFFFFFFFF), (7, 0xFFFFFFFFFFFFFFFF)] (start .rv64 .big)) 0x298E05B3) 5 = some 0xFFFFFFFFFFFFFFFE ∧
    readX (run (putX [(6, 0x80000000), (7, 0x80000000)] (start .rv32 .big)) 0x298E0533) 5 = some 0xC0000000 ∧
    readX (run (putX [(6, 0xFFFFFFFF80000000), (7, 0x7FFFFFFF)] (start .rv64 .big)) 0x498E043B) 9 = some 0xFFFFFFFF80000000 := by
  decide +kernel

/-- Vectors E5.9, E5.7, E5.6, E5.8, T218. -/
theorem test_step_div_divu_rem_remu_divw :
    readX (run (putX [(6, 0x8000000000000000), (7, 0xFFFFFFFFFFFFFFFF)] (start .rv64 .big)) 0x298E0633) 5 = some 0x8000000000000000 ∧
    readX (run (putX [(6, 0x80000000), (7, 0xFFFFFFFF)] (start .rv32 .big)) 0x298E06B3) 5 = some 0 ∧
    readX (run (putX [(6, 0x80000000), (7, 0xFFFFFFFF)] (start .rv32 .big)) 0x298E0733) 5 = some 0 ∧
    readX (run (putX [(6, 0x80000000), (7, 0xFFFFFFFF)] (start .rv32 .big)) 0x298E07B3) 5 = some 0x80000000 ∧
    readX (run (putX [(6, 0x80000000), (7, 0xFFFFFFFF)] (start .rv64 .big)) 0x298E063B) 5 = some 0xFFFFFFFF80000000 := by
  decide +kernel

/-- Vectors T219, T224, T225. -/
theorem test_step_divuw_remw_remuw :
    readX (run (putX [(6, 0xFFFFFFFFFFFFFFF9), (7, 2)] (start .rv64 .big)) 0x298E06BB) 5 = some 0x7FFFFFFC ∧
    readX (run (putX [(6, 0x80000000), (7, 0xFFFFFFFF)] (start .rv64 .big)) 0x298E073B) 5 = some 0 ∧
    readX (run (putX [(6, 0xFFFFFFFFFFFFFFF9), (7, 2)] (start .rv64 .big)) 0x298E07BB) 5 = some 1 := by
  decide +kernel

/-- Vectors T233, T241, T242, T244, T245. -/
theorem test_step_j_jal_jalrC_jalrR_jalrJ :
    readPc (run (start .rv32 .big) 0x00000267) = some 0x1008 ∧
    readX (run (start .rv64 .big) 0x0000046F) 1 = some 0x1004 ∧
    readPc (run (start .rv64 .big) 0x0000046F) = some 0x1010 ∧
    readX (run (putX [(6, 0x2000)] (start .rv32 .big)) 0x0980206B) 1 = some 0x1004 ∧
    readPc (run (putX [(6, 0x2000)] (start .rv32 .big)) 0x0980206B) = some 0x2008 ∧
    readPc (run (putX [(1, 0x1800)] (start .rv32 .big)) 0x004000EB) = some 0x1800 ∧
    readX (run (putX [(6, 0x2000)] (start .rv32 .big)) 0x2980216B) 5 = some 0x1004 ∧
    readPc (run (putX [(6, 0x2000)] (start .rv32 .big)) 0x2980216B) = some 0x2008 := by
  decide +kernel

/-- Vectors T249, T254, T257, T270, T260. -/
theorem test_step_rdnpc_beq_bne_blt_bge :
    readX (run (start .rv32 .big) 0x2800026B) 5 = some 0x1004 ∧
    readPc (run (start .rv32 .big) 0x2800026B) = some 0x1004 ∧
    readPc (run (putX [(6, 0xFFFFFFFF), (7, 1)] (start .rv32 .big)) 0x018E2063) = some 0x1004 ∧
    readPc (run (putX [(6, 0xFFFFFFFF), (7, 1)] (start .rv32 .big)) 0x018E20E3) = some 0x1010 ∧
    readPc (run (putX [(6, 0xFFFFFFFF), (7, 1)] (start .rv64 .big)) 0x018E2263) = some 0x1004 ∧
    readPc (run (putX [(6, 0xFFFFFFFF), (7, 1)] (start .rv32 .big)) 0x018E22E3) = some 0x1004 := by
  decide +kernel

/-- Vectors E8.2, T264. -/
theorem test_step_bltu_bgeu :
    readPc (run (putX [(6, 5), (7, 0xFFFFFFFF)] (start .rv32 .big)) 0x01CC2363) = some 0x1004 ∧
    readPc (run (putX [(6, 0xFFFFFFFF), (7, 1)] (start .rv32 .big)) 0x018E23E3) = some 0x1010 := by
  decide +kernel

/-- Vectors T274, T288, T300, T310, T320. -/
theorem test_step_faddS_fsubS_fmulS_fdivS_fsqrtS :
    readF (run (putF .s [(2, 0x3F800000), (3, 0x33800000)] (start .rv32 .big)) 0x08860053) 1 = some (.s 0x3F800000) ∧
    readFsr (run (putF .s [(2, 0x3F800000), (3, 0x33800000)] (start .rv32 .big)) 0x08860053) = some 1 ∧
    readF (run (putF .s [(2, 0x40400000), (3, 0x3F800000)] (start .rv32 .big)) 0x08861053) 1 = some (.s 0x40000000) ∧
    readF (run (putF .s [(2, 0xFF7FFFFF), (3, 0x40000000)] (start .rv32 .big)) 0x08862453) 1 = some (.s 0xFF800000) ∧
    readFsr (run (putF .s [(2, 0xFF7FFFFF), (3, 0x40000000)] (start .rv32 .big)) 0x08862453) = some 5 ∧
    readF (run (putF .s [(2, 0xBF800000), (3, 0)] (start .rv32 .big)) 0x08863053) 1 = some (.s 0xFF800000) ∧
    readFsr (run (putF .s [(2, 0xBF800000), (3, 0)] (start .rv32 .big)) 0x08863053) = some 8 ∧
    readF (run (putF .s [(2, 0x40000000)] (start .rv32 .big)) 0x08804053) 1 = some (.s 0x3FB504F3) ∧
    readFsr (run (putF .s [(2, 0x40000000)] (start .rv32 .big)) 0x08804053) = some 1 := by
  decide +kernel

/-- Vectors T323, T324, T337, T338, T340. -/
theorem test_step_fminS_fmaxS_faddD_fsubD_fmulD :
    readF (run (putF .s [(2, 0x3F800000), (3, 0xC0000000)] (start .rv32 .big)) 0x08878053) 1 = some (.s 0xC0000000) ∧
    readF (run (putF .s [(2, 0x3F800000), (3, 0xC0000000)] (start .rv32 .big)) 0x08879053) 1 = some (.s 0x3F800000) ∧
    readF (run (putF .d [(2, 0x3FB999999999999A), (3, 0x3FC999999999999A)] (start .rv32 .big)) 0x088600D3) 1 = some (.d 0x3FD3333333333334) ∧
    readFsr (run (putF .d [(2, 0x3FB999999999999A), (3, 0x3FC999999999999A)] (start .rv32 .big)) 0x088600D3) = some 1 ∧
    readF (run (putF .d [(2, 0x4008000000000000), (3, 0x3FF0000000000000)] (start .rv32 .big)) 0x088610D3) 1 = some (.d 0x4000000000000000) ∧
    readF (run (putF .d [(2, 0x7FEFFFFFFFFFFFFF), (3, 0x4000000000000000)] (start .rv32 .big)) 0x088620D3) 1 = some (.d 0x7FF0000000000000) ∧
    readFsr (run (putF .d [(2, 0x7FEFFFFFFFFFFFFF), (3, 0x4000000000000000)] (start .rv32 .big)) 0x088620D3) = some 5 := by
  decide +kernel

/-- Vectors T342, T346, T348, T349, T355. -/
theorem test_step_fdivD_fsqrtD_fminD_fmaxD_fmaddS :
    readF (run (putF .d [(2, 0x3FF0000000000000), (3, 0x4008000000000000)] (start .rv32 .big)) 0x088630D3) 1 = some (.d 0x3FD5555555555555) ∧
    readFsr (run (putF .d [(2, 0x3FF0000000000000), (3, 0x4008000000000000)] (start .rv32 .big)) 0x088630D3) = some 1 ∧
    readF (run (putF .d [(2, 0x4000000000000000)] (start .rv32 .big)) 0x088040D3) 1 = some (.d 0x3FF6A09E667F3BCD) ∧
    readFsr (run (putF .d [(2, 0x4000000000000000)] (start .rv32 .big)) 0x088040D3) = some 1 ∧
    readF (run (putF .d [(2, 0x3FF0000000000000), (3, 0xC000000000000000)] (start .rv32 .big)) 0x088780D3) 1 = some (.d 0xC000000000000000) ∧
    readF (run (putF .d [(2, 0x3FF0000000000000), (3, 0x7FF8000000000000)] (start .rv32 .big)) 0x088790D3) 1 = some (.d 0x3FF0000000000000) ∧
    readF (run (putF .s [(2, 0x7F800000), (3, 0x3F800000), (4, 0xFF800000)] (start .rv32 .big)) 0x08864043) 1 = some (.s 0x7FFFFFFF) ∧
    readFsr (run (putF .s [(2, 0x7F800000), (3, 0x3F800000), (4, 0xFF800000)] (start .rv32 .big)) 0x08864043) = some 0x10 := by
  decide +kernel

/-- Vectors T351, T359, T353, T367, T368. -/
theorem test_step_fmsubS_fnmsubS_fnmaddS_fmaddD_fmsubD :
    readF (run (putF .s [(2, 0x40000000), (3, 0x40400000), (4, 0x3F800000)] (start .rv32 .big)) 0x08864047) 1 = some (.s 0x40A00000) ∧
    readF (run (putF .s [(2, 0x3F800001), (3, 0x3F800001), (4, 0)] (start .rv32 .big)) 0x0886404B) 1 = some (.s 0xBF800002) ∧
    readFsr (run (putF .s [(2, 0x3F800001), (3, 0x3F800001), (4, 0)] (start .rv32 .big)) 0x0886404B) = some 1 ∧
    readF (run (putF .s [(2, 0x40000000), (3, 0x40400000), (4, 0x3F800000)] (start .rv32 .big)) 0x0886404F) 1 = some (.s 0xC0E00000) ∧
    readF (run (putF .d [(2, 0x4000000000000000), (3, 0x4008000000000000), (4, 0x3FF0000000000000)] (start .rv32 .big)) 0x088640C3) 1 = some (.d 0x401C000000000000) ∧
    readF (run (putF .d [(2, 0x4000000000000000), (3, 0x4008000000000000), (4, 0x3FF0000000000000)] (start .rv32 .big)) 0x088640C7) 1 = some (.d 0x4014000000000000) := by
  decide +kernel

/-- Vectors T369, T370. -/
theorem test_step_fnmsubD_fnmaddD :
    readF (run (putF .d [(2, 0x4000000000000000), (3, 0x4008000000000000), (4, 0x3FF0000000000000)] (start .rv32 .big)) 0x088640CB) 1 = some (.d 0xC014000000000000) ∧
    readF (run (putF .d [(2, 0x4000000000000000), (3, 0x4008000000000000), (4, 0x3FF0000000000000)] (start .rv32 .big)) 0x088640CF) 1 = some (.d 0xC01C000000000000) := by
  decide +kernel

/-- Vectors T412, T415, T398, T407, T423. -/
theorem test_step_fcvtLS_fcvtLuS_fcvtWS_fcvtWuS_fcvtLD :
    readX (run (putF .s [(2, 0xBFC00000)] (start .rv64 .big)) 0x28808253) 5 = some 0xFFFFFFFFFFFFFFFF ∧
    readFsr (run (putF .s [(2, 0xBFC00000)] (start .rv64 .big)) 0x28808253) = some 1 ∧
    readX (run (putF .s [(2, 0x40200000)] (start .rv64 .big)) 0x28809253) 5 = some 2 ∧
    readFsr (run (putF .s [(2, 0x40200000)] (start .rv64 .big)) 0x28809253) = some 1 ∧
    readX (run (putF .s [(2, 0xBFC00000)] (start .rv64 .big)) 0x2880A253) 5 = some 0xFFFFFFFFFFFFFFFF ∧
    readFsr (run (putF .s [(2, 0xBFC00000)] (start .rv64 .big)) 0x2880A253) = some 1 ∧
    readX (run (putF .s [(2, 0xBF000000)] (start .rv32 .big)) 0x2880B053) 5 = some 0 ∧
    readFsr (run (putF .s [(2, 0xBF000000)] (start .rv32 .big)) 0x2880B053) = some 1 ∧
    readX (run (putF .d [(2, 0xC3E0000000000000)] (start .rv64 .big)) 0x288082D3) 5 = some 0x8000000000000000 := by
  decide +kernel

/-- Vectors T424, T419, T421, T443, T445. -/
theorem test_step_fcvtLuD_fcvtWD_fcvtWuD_fcvtSL_fcvtSLu :
    readX (run (putF .d [(2, 0x43EFFFFFFFFFFFFF)] (start .rv64 .big)) 0x288092D3) 5 = some 0xFFFFFFFFFFFFF800 ∧
    readX (run (putF .d [(2, 0x41DFFFFFFFD9999A)] (start .rv32 .big)) 0x2880A0D3) 5 = some 0x7FFFFFFF ∧
    readFsr (run (putF .d [(2, 0x41DFFFFFFFD9999A)] (start .rv32 .big)) 0x2880A0D3) = some 1 ∧
    readX (run (putF .d [(2, 0x41EFFFFFFFE00000)] (start .rv32 .big)) 0x2880B2D3) 5 = some 0xFFFFFFFF ∧
    readF (run (putX [(6, 0x7FFFFFFFFFFFFFFF)] (start .rv64 .big)) 0x0980C053) 1 = some (.s 0x5F000000) ∧
    readFsr (run (putX [(6, 0x7FFFFFFFFFFFFFFF)] (start .rv64 .big)) 0x0980C053) = some 1 ∧
    readF (run (putX [(6, 0xFFFFFFFFFFFFFFFF)] (start .rv64 .big)) 0x0980D053) 1 = some (.s 0x5F800000) ∧
    readFsr (run (putX [(6, 0xFFFFFFFFFFFFFFFF)] (start .rv64 .big)) 0x0980D053) = some 1 := by
  decide +kernel

/-- Vectors T433, T437, T446, T448, T439. -/
theorem test_step_fcvtSW_fcvtSWu_fcvtDL_fcvtDLu_fcvtDW :
    readF (run (putX [(6, 0xFEFFFFFF)] (start .rv32 .big)) 0x0980E453) 1 = some (.s 0xCB800001) ∧
    readFsr (run (putX [(6, 0xFEFFFFFF)] (start .rv32 .big)) 0x0980E453) = some 1 ∧
    readF (run (putX [(6, 0xFFFFFFFF)] (start .rv32 .big)) 0x0980F053) 1 = some (.s 0x4F800000) ∧
    readFsr (run (putX [(6, 0xFFFFFFFF)] (start .rv32 .big)) 0x0980F053) = some 1 ∧
    readF (run (putX [(6, 0x20000000000001)] (start .rv64 .big)) 0x0980C0D3) 1 = some (.d 0x4340000000000000) ∧
    readFsr (run (putX [(6, 0x20000000000001)] (start .rv64 .big)) 0x0980C0D3) = some 1 ∧
    readF (run (putX [(6, 0xFFFFFFFFFFFFFFFF)] (start .rv64 .big)) 0x0980D0D3) 1 = some (.d 0x43F0000000000000) ∧
    readFsr (run (putX [(6, 0xFFFFFFFFFFFFFFFF)] (start .rv64 .big)) 0x0980D0D3) = some 1 ∧
    readF (run (putX [(6, 0x80000000)] (start .rv32 .big)) 0x0980E0D3) 1 = some (.d 0xC1E0000000000000) := by
  decide +kernel

/-- Vectors T441, T451, T463, E12.1, E12.2. -/
theorem test_step_fcvtDWu_fcvtSD_fcvtDS_fsgnjS_fsgnjnS :
    readF (run (putX [(6, 0xFFFFFFFF)] (start .rv32 .big)) 0x0980F0D3) 1 = some (.d 0x41EFFFFFFFE00000) ∧
    readF (run (putF .d [(2, 0x3FD5555555555555)] (start .rv32 .big)) 0x08811053) 1 = some (.s 0x3EAAAAAB) ∧
    readFsr (run (putF .d [(2, 0x3FD5555555555555)] (start .rv32 .big)) 0x08811053) = some 1 ∧
    readF (run (putF .s [(2, 0x80000000)] (start .rv32 .big)) 0x088100D3) 1 = some (.d 0x8000000000000000) ∧
    readF (run (putF .s [(2, 0xC0490FDB)] (start .rv32 .big)) 0x08845053) 1 = some (.s 0xC0490FDB) ∧
    readF (run (putF .s [(2, 0xC0490FDB)] (start .rv32 .big)) 0x08846053) 1 = some (.s 0x40490FDB) := by
  decide +kernel

/-- Vectors T468, T472, T473, T474, T476. -/
theorem test_step_fsgnjxS_fsgnjD_fsgnjnD_fsgnjxD_mftxS :
    readF (run (putF .s [(2, 0xBF800000), (3, 0xC0000000)] (start .rv32 .big)) 0x08867053) 1 = some (.s 0x3F800000) ∧
    readF (run (putF .d [(2, 0x3FF0000000000000), (3, 0x8000000000000000)] (start .rv32 .big)) 0x088650D3) 1 = some (.d 0xBFF0000000000000) ∧
    readF (run (putF .d [(2, 0x3FF0000000000000), (3, 0x8000000000000000)] (start .rv32 .big)) 0x088660D3) 1 = some (.d 0x3FF0000000000000) ∧
    readF (run (putF .d [(2, 0xBFF0000000000000), (3, 0xC000000000000000)] (start .rv32 .big)) 0x088670D3) 1 = some (.d 0x3FF0000000000000) ∧
    readX (run (putF .s [(2, 0xBF800000)] (start .rv64 .big)) 0x2805C053) 5 = some 0xFFFFFFFFBF800000 := by
  decide +kernel

/-- Vectors T477, T481, T483, T486, E13.1. -/
theorem test_step_mftxD_mxtfS_mxtfD_mffsr_mtfsr :
    readX (run (putF .d [(2, 0x3FF0000000000000)] (start .rv64 .big)) 0x2805C0D3) 5 = some 0x3FF0000000000000 ∧
    readF (run (putX [(6, 0xFFFFFFFF40490FDB)] (start .rv64 .big)) 0x0981E053) 1 = some (.s 0x40490FDB) ∧
    readF (run (putX [(6, 0x3FF0000000000000)] (start .rv64 .big)) 0x0981E0D3) 1 = some (.d 0x3FF0000000000000) ∧
    readX (run (putFsr 0xFF (start .rv64 .big)) 0x2801D053) 5 = some 0xFF ∧
    readX (run (putFsr 0x75 (start .rv32 .big)) 0x2801F053) 5 = some 0x75 := by
  decide +kernel

/-- Vectors T493, T501, T504, T506, T507. -/
theorem test_step_feqS_fltS_fleS_feqD_fltD :
    readX (run (putF .s [(2, 0), (3, 0x80000000)] (start .rv32 .big)) 0x28875053) 5 = some 1 ∧
    readX (run (putF .s [(2, 0xFF800000), (3, 0xFF7FFFFF)] (start .rv32 .big)) 0x28876053) 5 = some 1 ∧
    readX (run (putF .s [(2, 0), (3, 0x80000000)] (start .rv32 .big)) 0x28877053) 5 = some 1 ∧
    readX (run (putF .d [(2, 0x3FF0000000000000), (3, 0x3FF0000000000000)] (start .rv32 .big)) 0x288750D3) 5 = some 1 ∧
    readX (run (putF .d [(2, 0x3FF0000000000000), (3, 0x4000000000000000)] (start .rv32 .big)) 0x288760D3) 5 = some 1 := by
  decide +kernel

/-- Vectors T508. -/
theorem test_step_fleD :
    readX (run (putF .d [(2, 0x4000000000000000), (3, 0x3FF0000000000000)] (start .rv32 .big)) 0x288770D3) 5 = some 0 := by
  decide +kernel

/-- Vectors T512. -/
theorem test_step_fence :
    readX (run (putX [(31, 7)] (start .rv32 .big)) 0xFFFFFD2F) 31 = some 7 := by
  decide +kernel

/-- FENCE.I, and the trap of SYSCALL and of BREAK (R431, R441, R442). -/
theorem test_step_fenceI_syscall_brk :
    readPc (run (start .rv32 .big) 0x000000AF) = some 0x1004 ∧
    traps (run (start .rv64 .little) 0x00000077) (.syscall 0x1000) = true ∧
    traps (run (start .rv32 .big) 0x000000F7) (.breakpoint 0x1000) = true := by decide +kernel
/-- The counters are read modulo 2^XPRLEN, and RDINSTRET does not count itself (R443 to R445). -/
theorem test_step_rdcycle_rdtime_rdinstret :
    let s := { start .rv32 .little with cycle := 0x100000007, time := 0x200000009, instret := 41 }
    readX (run s 0x28000277) 5 = some 7 ∧ readX (run s 0x28000677) 5 = some 9 ∧
    readX (run s 0x28000A77) 5 = some 41 := by decide +kernel
/-- The retired instruction is counted after it is read. -/
theorem test_step_instret_counts :
    (match run { start .rv64 .little with instret := 41 } 0x28000A77 with
      | .next t => t.instret
      | .fault _ => 0
      | .refused _ => 0) = 42 := by decide +kernel

/-! ### Traps (R460 to R465, R471) -/

/-- On RV32 a 64-bit AMO at a misaligned address is illegal, not misaligned (R471). -/
theorem test_trap_amo_double_on_rv32 :
    traps (run (putX [(6, 0x2001)] (start .rv32 .little)) 0x298E01AB) (.illegalInstruction 0x1000 0x298E01AB) = true := by
  decide +kernel
theorem test_trap_amo_misaligned :
    traps (run (putX [(6, 0x2002)] (start .rv64 .little)) 0x298E012B) (.amoAddressMisaligned 0x1000 0x2002) = true := by
  decide +kernel
/-- A load across the end of memory faults at its first byte outside, a store there writes nothing. -/
theorem test_trap_access :
    traps (run (putX [(6, 0x2FFA)] (start .rv64 .big)) 0x29801103) (.accessFault 0x1000 0x3000 .read) = true ∧
    traps (run (putX [(6, 0x2FFA)] (start .rv64 .big)) 0x018E1123) (.accessFault 0x1000 0x3000 .write) = true := by
  decide +kernel
/-- A dynamic mode while fsr.RM is 101 (R312). -/
theorem test_trap_dynamic_mode :
    traps (run (putFsr 0xA0 (start .rv64 .little)) 0x08860E53) (.illegalInstruction 0x1000 0x08860E53) = true := by
  decide +kernel
theorem test_trap_pc_misaligned :
    traps (step { start .rv64 .little with pc := 0x1002 }) (.instructionAddressMisaligned 0x1002) = true := by
  decide +kernel

/-! ### Witnesses: for each statement with hypotheses, states and operands that meet them, one for each clause -/

/-- `add x5,x6,x7` at the pc. -/
def atAdd (xl : Xlen) (e : Endian) : State := (start xl e).plantWord 0x298E0033
/-- The state of `start` with a region list of its own. -/
def within (rs : List Region) (s : State) : State := { s with params := { s.params with memValid := rs } }
/-- A region that admits reads only. -/
def readOnly : Region := { base := 0x1000, size := 0x2000, fetch := true, read := true, write := false }
/-- 1.0, 2.0, 3.0 and 4.0 in each format. -/
def one : Fmt → FBits | .s => 0x3F800000 | .d => 0x3FF0000000000000
def two : Fmt → FBits | .s => 0x40000000 | .d => 0x4000000000000000
def three : Fmt → FBits | .s => 0x40400000 | .d => 0x4008000000000000
def four : Fmt → FBits | .s => 0x40800000 | .d => 0x4010000000000000

theorem witness_EncodeDecode : decodeWord 0x298E0033 = .ok (.add 5 6 7) := by decide +kernel

theorem witness_TableDecides :
    decodeWord 0x298E0033 = .ok (.add 5 6 7) ∧
      0x298E0033#32 &&& (Instr.add 5 6 7).tableMask = (Instr.add 5 6 7).tableMatch ∧
      0x298E0033#32 &&& (Instr.add 0 0 0).tableMask = (Instr.add 0 0 0).tableMatch := by decide +kernel

theorem witness_UndefinedWordsTrap :
    Fetches ((start .rv64 .little).plantWord 0) 0 ∧ ∀ i : Instr, 0#32 &&& i.tableMask ≠ i.tableMatch := by
  refine ⟨⟨by decide +kernel, by decide +kernel, by decide +kernel⟩, fun i => ?_⟩
  rw [BitVec.zero_and]
  cases i <;> simp only [Instr.tableMatch] <;> decide

theorem witness_ReservedWordsTrap :
    (Fetches ((start .rv32 .big).plantWord 0x298E0032) 0x298E0032 ∧ (0x298E0032#32).extractLsb' 0 2 ≠ 0b11#2) ∧
    (Fetches ((start .rv64 .little).plantWord 0x1F) 0x1F ∧ (0x1F#32).extractLsb' 0 5 = 0b11111#5) ∧
    (Fetches ((start .rv64 .big).plantWord 0x08860153) 0x08860153 ∧
      opcodeF 0x08860153 ∈ [0b1010011#7, 0b1000011#7, 0b1000111#7, 0b1001011#7, 0b1001111#7] ∧
      fmtF 0x08860153 ∈ [0b10#2, 0b11#2]) ∧
    (Fetches ((start .rv32 .little).plantWord 0x088601CF) 0x088601CF ∧
      opcodeF 0x088601CF ∈ [0b1010011#7, 0b1000011#7, 0b1000111#7, 0b1001011#7, 0b1001111#7] ∧
      fmtF 0x088601CF ∈ [0b10#2, 0b11#2]) := by
  unfold Fetches; decide +kernel

theorem witness_StepRunsDecoded_next :
    Fetches (atAdd .rv32 .big) 0x298E0033 ∧ decodeWord 0x298E0033 = .ok (.add 5 6 7) ∧
      ∃ t, exec (.add 5 6 7) (atAdd .rv32 .big) = .next t :=
  ⟨by unfold Fetches; decide +kernel, by decide +kernel, _, rfl⟩
theorem witness_StepRunsDecoded_fault :
    Fetches ((start .rv64 .little).plantWord 0x77) 0x77 ∧ decodeWord 0x77 = .ok .syscall ∧
      ∃ e, exec .syscall ((start .rv64 .little).plantWord 0x77) = .fault e :=
  ⟨by unfold Fetches; decide +kernel, by decide +kernel, _, rfl⟩

theorem witness_FetchTraps :
    ({ start .rv64 .little with pc := 0x1002 } : State).pcVal.toNat % 4 ≠ 0 ∧
    (({ start .rv64 .little with pc := 0x3000 } : State).pcVal.toNat % 4 = 0 ∧
      firstRefused (start .rv64 .little).params .fetch
        (({ start .rv64 .little with pc := 0x3000 } : State).addrs 0x3000 4) = some 0x3000) ∧
    ((start .rv32 .big).pcVal.toNat % 4 = 0 ∧
      firstRefused (within [{ readOnly with size := 3 }] (start .rv32 .big)).params .fetch
        ((start .rv32 .big).addrs (start .rv32 .big).pcVal 4) = some 0x1003) := by decide +kernel

theorem witness_FetchOrder :
    ((start .rv64 .little).oldParcels 0x1000 = [] ∧ (start .rv64 .little).oldParcels 0x1002 = [] ∧
      (start .rv64 .little).endian = .little) ∧
    ((start .rv32 .big).oldParcels 0xFFFFFFFC = [] ∧ (start .rv32 .big).oldParcels 0xFFFFFFFE = [] ∧
      (start .rv32 .big).endian = .big) := by decide +kernel

theorem witness_FetchRace :
    0x2001 ∈ (start .rv64 .little).addrs 0x2001 4 ∧ (start .rv64 .little).stale = [] ∧
      ({ addr := 0x2000, b0 := 0, b1 := 0 } : StaleParcel) ∈ ((start .rv64 .little).store 0x2001 4 1).stale ∧
      ({ addr := 0x2002, b0 := 2, b1 := 0 } : StaleParcel) ∈ ((start .rv64 .little).store 0x2001 4 0x30201).stale ∧
      (0x2004#64).toNat % 4 = 0 ∧
      ({ addr := 0x2006, b0 := 0, b1 := 0 } : StaleParcel) ∈ ((start .rv64 .little).store 0x2004 4 1).stale := by
  decide +kernel

theorem witness_ShiftImm :
    ((31#6).toNat < (start .rv32 .little).xlen.bits ∧ (63#6).toNat < (start .rv64 .little).xlen.bits) ∧
      (start .rv32 .little).xlen.bits ≤ (32#6).toNat := by decide +kernel

/-- The variants of WordArith, WordShift, DivideWord and Moves. -/
theorem witness_WordArith_WordShift_DivideWord_Moves :
    (start .rv64 .big).xlen = .rv64 ∧ (start .rv32 .big).xlen = .rv32 := by decide

theorem witness_DivisionIdentity : 0 < 1 ∧ 0 < 64 := by decide

/-- The last bytes of memory, and an access that wraps past the top of the address space. -/
theorem witness_LoadsX_LoadsF :
    (let s := putX [(6, 0x2FFF)] (start .rv32 .big); s.admits .read (s.effAddr 6 0) 1 = true) ∧
    (let s := putX [(6, 0x2FFE)] (start .rv32 .big); s.admits .read (s.effAddr 6 0) 2 = true) ∧
    (let s := putX [(6, 0x2FFC)] (start .rv64 .big);
      s.admits .read (s.effAddr 6 0) 4 = true ∧ s.xlen = .rv64) ∧
    (let s := putX [(6, 0x2FFD)] (start .rv64 .little);
      s.admits .read (s.effAddr 6 (-5)) 8 = true ∧ s.xlen = .rv64) ∧
    (start .rv32 .little).xlen = .rv32 ∧
    State.reset.admits .read (State.reset.effAddr 0 (-1)) 8 = true := by decide +kernel

theorem witness_StoresX_StoresF :
    (let s := putX [(6, 0x2FFF)] (start .rv32 .big); s.admits .write (s.effAddr 6 0) 1 = true) ∧
    (let s := putX [(6, 0x2FFE)] (start .rv32 .big); s.admits .write (s.effAddr 6 0) 2 = true) ∧
    (let s := putX [(6, 0x2FFC)] (start .rv32 .big); s.admits .write (s.effAddr 6 0) 4 = true) ∧
    (let s := putX [(6, 0x2FF8)] (start .rv64 .little);
      s.admits .write (s.effAddr 6 0) 8 = true ∧ s.xlen = .rv64) ∧
    (start .rv32 .little).xlen = .rv32 ∧
    State.reset.admits .write (State.reset.effAddr 0 (-1)) 8 = true ∧
    (putF .s [(2, 7)] (start .rv64 .little)).cellF 2 = .s 7 ∧ (putF .d [(2, 7)] (start .rv64 .little)).cellF 2 = .d 7 := by
  decide +kernel

/-- The first byte past the end, at each width and for both kinds of access; an AMO whose word cannot be read, and one
whose word can be read and not written. -/
theorem witness_AccessFaults :
    (let s := putX [(6, 0x3000)] (start .rv64 .little);
      firstRefused s.params .read (s.addrs (s.effAddr 6 0) 1) = some 0x3000 ∧
      firstRefused s.params .read (s.addrs (s.effAddr 6 (-1)) 2) = some 0x3000 ∧
      firstRefused s.params .read (s.addrs (s.effAddr 6 (-1)) 4) = some 0x3000 ∧
      firstRefused s.params .read (s.addrs (s.effAddr 6 (-7)) 8) = some 0x3000 ∧
      firstRefused s.params .write (s.addrs (s.effAddr 6 0) 1) = some 0x3000 ∧
      firstRefused s.params .write (s.addrs (s.effAddr 6 (-1)) 2) = some 0x3000 ∧
      firstRefused s.params .write (s.addrs (s.effAddr 6 (-1)) 4) = some 0x3000 ∧
      firstRefused s.params .write (s.addrs (s.effAddr 6 (-7)) 8) = some 0x3000 ∧
      s.xlen = .rv64 ∧ s.ux 6 % 4 = 0 ∧ s.ux 6 % 8 = 0 ∧
      firstRefused s.params .read (s.addrs (s.getX 6) 4) = some 0x3000 ∧
      firstRefused s.params .read (s.addrs (s.getX 6) 8) = some 0x3000) ∧
    (let s := within [readOnly] (putX [(6, 0x2FF8)] (start .rv64 .big));
      s.xlen = .rv64 ∧ s.ux 6 % 4 = 0 ∧ s.ux 6 % 8 = 0 ∧
      s.admits .read (s.getX 6) 4 = true ∧ firstRefused s.params .write (s.addrs (s.getX 6) 4) = some 0x2FF8 ∧
      s.admits .read (s.getX 6) 8 = true ∧ firstRefused s.params .write (s.addrs (s.getX 6) 8) = some 0x2FF8) := by
  decide +kernel

theorem witness_AmoWord :
    let s := putX [(6, 0x2FFC)] (start .rv32 .big)
    (s.getX 6).toNat % 4 = 0 ∧ s.admits .read (s.getX 6) 4 = true ∧ s.admits .write (s.getX 6) 4 = true := by
  decide +kernel

theorem witness_AmoDouble :
    let s := putX [(6, 0x2FF8)] (start .rv64 .little)
    s.xlen = .rv64 ∧ (s.getX 6).toNat % 8 = 0 ∧ s.admits .read (s.getX 6) 8 = true ∧
      s.admits .write (s.getX 6) 8 = true := by decide +kernel

theorem witness_AmoMisaligned :
    (putX [(6, 0x2003)] (start .rv32 .big)).ux 6 % 4 ≠ 0 ∧
    ((start .rv64 .big).xlen = .rv64 ∧ (putX [(6, 0x2004)] (start .rv64 .big)).ux 6 % 8 ≠ 0) := by decide +kernel

theorem witness_IllFormedTraps :
    (Instr.ld 5 6 0).wellFormed (start .rv32 .little).xlen = false ∧
    (Instr.srai 5 6 32).wellFormed (start .rv32 .little).xlen = false ∧
    (Instr.fsqrtD 1 2 6).wellFormed (start .rv64 .little).xlen = false := by decide +kernel

theorem witness_ModeTraps :
    4#3 ≤ 4 ∧ (Instr.fcvtDS 1 2 5).rm? = some 5 ∧ (Instr.fcvtDS 1 2 5).rowExists (start .rv32 .little).xlen = true ∧
    (Instr.fcvtLD 1 2 6).rm? = some 6 ∧ (Instr.fcvtLD 1 2 6).rowExists (start .rv64 .little).xlen = true ∧
    (Instr.faddS 1 2 3 7).rm? = some 7 ∧ (Instr.faddS 1 2 3 7).rowExists (start .rv32 .big).xlen = true ∧
    5 ≤ (putFsr 0xA0 (start .rv32 .big)).fsrRM ∧ 5 ≤ (putFsr 0xE0 (start .rv32 .big)).fsrRM := by decide +kernel

/-- A static mode, and the dynamic mode with the last valid value of fsr.RM, on RV64. -/
theorem witness_FpArith_FpFused_FpToInt_FpFromInt_FpBetween :
    resolveMode 0 (start .rv64 .little).fsrRM = some .rne ∧ resolveMode 4 (start .rv64 .little).fsrRM = some .rmm ∧
    resolveMode 7 (putFsr 0x80 (start .rv64 .little)).fsrRM = some .rmm ∧ (start .rv64 .little).xlen = .rv64 := by
  decide +kernel

theorem denotes_one (F : Fmt) : denotes F (one F) 1 := by
  cases F
  · exact ⟨by unfold fitsFormat; decide, false, 2 ^ 23, -23, by decide, by norm_num [ratOf, signedMag]⟩
  · exact ⟨by unfold fitsFormat; decide, false, 2 ^ 52, -52, by decide, by norm_num [ratOf, signedMag]⟩
theorem denotes_two (F : Fmt) : denotes F (two F) 2 := by
  cases F
  · exact ⟨by unfold fitsFormat; decide, false, 2 ^ 23, -22, by decide, by norm_num [ratOf, signedMag]⟩
  · exact ⟨by unfold fitsFormat; decide, false, 2 ^ 52, -51, by decide, by norm_num [ratOf, signedMag]⟩
theorem denotes_three (F : Fmt) : denotes F (three F) 3 := by
  cases F
  · exact ⟨by unfold fitsFormat; decide, false, 3 * 2 ^ 22, -22, by decide, by norm_num [ratOf, signedMag]⟩
  · exact ⟨by unfold fitsFormat; decide, false, 3 * 2 ^ 51, -51, by decide, by norm_num [ratOf, signedMag]⟩
theorem denotes_four (F : Fmt) : denotes F (four F) 4 := by
  cases F
  · exact ⟨by unfold fitsFormat; decide, false, 2 ^ 23, -21, by decide, by norm_num [ratOf, signedMag]⟩
  · exact ⟨by unfold fitsFormat; decide, false, 2 ^ 52, -50, by decide, by norm_num [ratOf, signedMag]⟩

/-- The NaN classes of FpMinMax, Compares, FpBetween, FpToInt and NaNResults, in both formats, and a number. -/
theorem witness_nans :
    (unpack .s 0x7F800001 = .nan true ∧ unpack .s 0xFFC12345 = .nan false ∧ unpack .d 0x7FF0000000000001 = .nan true ∧
      unpack .d 0xFFF8000000000000 = .nan false) ∧
    (unpack .s 0x7F800001 ≠ .nan false ∧ unpack .s 0xFFC12345 ≠ .nan true ∧ (unpack .s 0x7F800001).isNaN = true ∧
      (unpack .s 0x3F800000).isNaN = false ∧ (unpack .d 0x3FF0000000000000).isNaN = false) ∧
    (unpack .s ((0x7F800001#32).setWidth 64) = .nan true ∧ unpack .s ((0x7FC00000#32).setWidth 64) = .nan false) := by
  decide +kernel

/-- −1, the zeros and the infinities in each format, and 1.5 in single precision. -/
def minusOne : Fmt → FBits | .s => 0xBF800000 | .d => 0xBFF0000000000000
def zero (neg : Bool) : Fmt → FBits
  | .s => if neg then 0x80000000 else 0
  | .d => if neg then 0x8000000000000000 else 0
def infinity (neg : Bool) : Fmt → FBits
  | .s => if neg then 0xFF800000 else 0x7F800000
  | .d => if neg then 0xFFF0000000000000 else 0x7FF0000000000000

theorem denotes_minusOne (F : Fmt) : denotes F (minusOne F) (-1) := by
  cases F
  · exact ⟨by unfold fitsFormat; decide, true, 2 ^ 23, -23, by decide, by norm_num [ratOf, signedMag]⟩
  · exact ⟨by unfold fitsFormat; decide, true, 2 ^ 52, -52, by decide, by norm_num [ratOf, signedMag]⟩
theorem denotes_zero (F : Fmt) (neg : Bool) : denotes F (zero neg F) 0 := by
  cases F <;> cases neg
  · exact ⟨by unfold fitsFormat; decide, false, 0, -149, by decide, by norm_num [ratOf, signedMag]⟩
  · exact ⟨by unfold fitsFormat; decide, true, 0, -149, by decide, by norm_num [ratOf, signedMag]⟩
  · exact ⟨by unfold fitsFormat; decide, false, 0, -1074, by decide, by norm_num [ratOf, signedMag]⟩
  · exact ⟨by unfold fitsFormat; decide, true, 0, -1074, by decide, by norm_num [ratOf, signedMag]⟩
theorem denotes_threeHalves : denotes .s 0x3FC00000 (3 / 2) :=
  ⟨by unfold fitsFormat; decide, false, 3 * 2 ^ 22, -23, by decide, by norm_num [ratOf, signedMag]⟩
theorem unpack_infinity (F : Fmt) (neg : Bool) : unpack F (infinity neg F) = .inf neg := by
  cases F <;> cases neg <;> decide +kernel

/-- Every kind of order and of equality: an infinity with an infinity, with a number, and two numbers; zeros of opposite
sign, and operands of one sign. -/
theorem witness_FpMinMax_Compares (F : Fmt) :
    denotes F (one F) 1 ∧ denotes F (two F) 2 ∧ (1 : Rat) < 2 ∧
      ValueBelow F (infinity true F) (infinity false F) ∧ ValueBelow F (infinity true F) (one F) ∧
      ValueBelow F (one F) (infinity false F) ∧ ValueBelow F (one F) (two F) ∧
      ValueEqual F (infinity true F) (infinity true F) ∧ ValueEqual F (zero true F) (zero false F) ∧
      signOf F (zero true F) ≠ signOf F (zero false F) ∧ signOf F (one F) = signOf F (one F) :=
  ⟨denotes_one F, denotes_two F, by norm_num, .inl ⟨unpack_infinity F _, .inl (unpack_infinity F _)⟩,
    .inl ⟨unpack_infinity F _, .inr ⟨1, denotes_one F⟩⟩, .inr (.inl ⟨⟨1, denotes_one F⟩, unpack_infinity F _⟩),
    .inr (.inr ⟨1, 2, denotes_one F, denotes_two F, by norm_num⟩), .inl ⟨true, unpack_infinity F _, unpack_infinity F _⟩,
    .inr ⟨0, denotes_zero F true, denotes_zero F false⟩, by cases F <;> decide, rfl⟩

theorem witness_FpToInt_invalid : ∀ neg k e, unpack .s 0x7F800000 ≠ .fin neg k e := by
  intro neg k e h
  have : unpack .s 0x7F800000 = .inf false := by decide +kernel
  rw [this] at h
  cases h

/-- 1.5 converts inexactly to 2, −1 is out of range for WU and in range for W, at the end of its placed range. -/
theorem witness_FpToInt_finite :
    (denotes .s 0x3FC00000 (3 / 2) ∧ IsRounding .rne (decide ((3 / 2 : Rat) < 0)) |3 / 2| 2 ∧
      intLo .w ≤ 2 ∧ 2 ≤ intHi .w) ∧
    (denotes .d (minusOne .d) (-1) ∧ IsRounding .rtz (decide ((-1 : Rat) < 0)) |-1| 1 ∧ (-1 : Int) < intLo .wu) ∧
    (intLo .wu ≤ 2 ^ 32 - 1 ∧ 2 ^ 32 - 1 ≤ intHi .wu ∧ intLo .l ≤ -2 ^ 63 ∧ -2 ^ 63 ≤ intHi .l) := by
  refine ⟨⟨denotes_threeHalves, ?_, by decide, by decide⟩, ⟨denotes_minusOne .d, ?_, by decide⟩, by decide⟩ <;>
    norm_num [IsRounding, abs_of_pos, abs_lt]

theorem witness_FpFromInt : (2 ^ 64 - 1 : Int) ≠ 0 ∧ (-2 ^ 63 : Int) ≠ 0 ∧ (start .rv64 .big).xlen = .rv64 := by decide

/-- Infinities of both formats, a zero and a number of each. -/
theorem witness_FpBetween :
    unpack .d (infinity true .d) = .inf true ∧ unpack .s (infinity false .s) = .inf false ∧
      denotes .d (zero true .d) 0 ∧ denotes .d (one .d) 1 ∧ (1 : Rat) ≠ 0 ∧ denotes .s (zero true .s) 0 ∧
      denotes .s (one .s) 1 :=
  ⟨unpack_infinity _ _, unpack_infinity _ _, denotes_zero _ _, denotes_one _, by norm_num, denotes_zero _ _,
    denotes_one _⟩

/-- An environment that resumes every SYSCALL after it, and stops at every other trap. -/
def resumeSyscall : EnvTrap := fun e s =>
  match e with
  | .syscall _ => some s.advance
  | .instructionAddressMisaligned _ | .illegalInstruction _ _ | .amoAddressMisaligned _ _ | .breakpoint _
  | .accessFault _ _ _ => none

theorem witness_EnvResumes :
    (∃ t, step (atAdd .rv64 .little) = .next t) ∧
    (step ((start .rv64 .little).plantWord 0xF7) = .fault (.breakpoint 0x1000) ∧
      resumeSyscall (.breakpoint 0x1000) ((start .rv64 .little).plantWord 0xF7) = none) ∧
    (step ((start .rv64 .little).plantWord 0x77) = .fault (.syscall 0x1000) ∧
      resumeSyscall (.syscall 0x1000) ((start .rv64 .little).plantWord 0x77) =
        some ((start .rv64 .little).plantWord 0x77).advance) ∧
    ∃ t, stepUnder resumeSyscall ((start .rv64 .little).plantWord 0x77) = .next t :=
  ⟨⟨_, rfl⟩, ⟨rfl, rfl⟩, ⟨rfl, rfl⟩, _, rfl⟩

/-- An environment whose answer has other parameters and lower counts cannot change the variant or turn back a count
(R24, R448). -/
theorem test_resume_keeps :
    let s : State := { (start .rv64 .little).plantWord 0x77 with cycle := 9, time := 8, instret := 7 }
    (match stepUnder (fun _ _ => some (start .rv32 .big)) s with
      | .next t => decide (t.params = s.params) && t.cycle == 9 && t.time == 8 && t.instret == 7
      | .fault _ => false
      | .refused _ => false) = true := by decide +kernel

theorem witness_StepKeepsInv : Inv (atAdd .rv32 .big) ∧ ∃ t, step (atAdd .rv32 .big) = .next t :=
  ⟨⟨by decide +kernel, by decide +kernel, by decide +kernel, by decide +kernel, by decide +kernel, by decide +kernel,
    by decide +kernel⟩, _, rfl⟩

/-- One instruction for each of the statements about every instruction and every step. -/
theorem witness_FlagsSticky_OnlyStoresWrite_SequentialPc_StepCounts :
    (∀ rd rs1, Instr.faddS 1 2 3 0 ≠ .mtfsr rd rs1) ∧ writesMemory (.faddS 1 2 3 0) = false ∧
      transfersControl (.faddS 1 2 3 0) = false ∧ (∃ t, exec (.faddS 1 2 3 0) (start .rv64 .little) = .next t) ∧
      ∃ t, step (atAdd .rv64 .big) = .next t :=
  ⟨nofun, rfl, rfl, ⟨_, rfl⟩, _, rfl⟩

theorem witness_RoundingModes : 0 < 1 := by decide

/-- 1 is rounded in the normal range, 2^128 overflows, 2^-130 is subnormal, in single precision. -/
theorem witness_RoundDelivers :
    (0 < 1 ∧ (2 : Rat) ^ (0 : Int) ≤ ((1 : Nat) : Rat) / (1 : Nat) * 2 ^ (0 : Int) ∧
      ((1 : Nat) : Rat) / (1 : Nat) * 2 ^ (0 : Int) < (2 : Rat) ^ ((0 : Int) + 1) ∧
      (2 : Rat) ^ expMin .s ≤ ((1 : Nat) : Rat) / (1 : Nat) * 2 ^ (0 : Int)) ∧
    ((2 : Rat) ^ (128 : Int) ≤ ((1 : Nat) : Rat) / (1 : Nat) * 2 ^ (128 : Int) ∧
      ((1 : Nat) : Rat) / (1 : Nat) * 2 ^ (128 : Int) < (2 : Rat) ^ ((128 : Int) + 1) ∧
      (2 : Rat) ^ (expMax .s + 1) ≤ ((2 ^ 23 : Nat) : Rat) * 2 ^ ((128 : Int) - fracBits .s) ∧
      IsRounding .rne false (((1 : Nat) : Rat) / (1 : Nat) * 2 ^ (128 : Int) / 2 ^ ((128 : Int) - fracBits .s)) (2 ^ 23)) ∧
    ((2 : Rat) ^ (-130 : Int) ≤ ((1 : Nat) : Rat) / (1 : Nat) * 2 ^ (-130 : Int) ∧
      ((1 : Nat) : Rat) / (1 : Nat) * 2 ^ (-130 : Int) < (2 : Rat) ^ ((-130 : Int) + 1) ∧
      ((1 : Nat) : Rat) / (1 : Nat) * 2 ^ (-130 : Int) < (2 : Rat) ^ expMin .s) := by
  norm_num [expMin, expMax, expBias, expBits, fracBits, IsRounding]

/-- Sums, differences, products and fused results that are zero; division by zero; the roots of a zero, of a number
below zero and of 1, the lower end of its range of powers. -/
theorem witness_ExactResults_ends (F : Fmt) :
    denotes F (minusOne F) (-1) ∧ denotes F (zero true F) 0 ∧ denotes F (zero false F) 0 ∧ denotes F (one F) 1 ∧
      (1 : Rat) + -1 = 0 ∧ (1 : Rat) - 1 = 0 ∧ (0 : Rat) * -1 = 0 ∧
      signedRat true ((1 : Rat) * 1) + signedRat false 1 = 0 ∧ (-1 : Rat) < 0 ∧
      (2 : Rat) ^ (2 * 0 : Int) ≤ 1 ∧ (1 : Rat) < (2 : Rat) ^ (2 * 0 + 2 : Int) :=
  ⟨denotes_minusOne F, denotes_zero F _, denotes_zero F _, denotes_one F, by norm_num, by norm_num, by norm_num,
    by norm_num [signedRat], by norm_num, by norm_num, by norm_num⟩

/-- 1 + 1, 3 − 1, 2 × 1, 2 / 1, the square root of 4, and 1 × 1 + 1, with the result 2. -/
theorem witness_ExactResults (F : Fmt) :
    denotes F (one F) 1 ∧ denotes F (two F) 2 ∧ denotes F (three F) 3 ∧ denotes F (four F) 4 ∧ (2 : Rat) ≠ 0 ∧
      (1 : Rat) + 1 = 2 ∧ (3 : Rat) - 1 = 2 ∧ (2 : Rat) * 1 = 2 ∧ (1 : Rat) ≠ 0 ∧ (2 : Rat) / 1 = 2 ∧
      (0 : Rat) < 2 ∧ (2 : Rat) * 2 = 4 ∧ signedRat false ((1 : Rat) * 1) + signedRat false (1 : Rat) = 2 :=
  ⟨denotes_one F, denotes_two F, denotes_three F, denotes_four F, by norm_num, by norm_num, by norm_num, by norm_num,
    by norm_num, by norm_num, by norm_num, by norm_num, by norm_num [signedRat]⟩

/-- The infinities, the zeros and a negative number of NaNResults. -/
theorem witness_NaNResults :
    unpack .s 0x7F800000 = .inf false ∧ unpack .s 0xFF800000 = .inf (!false) ∧ unpack .s 0xFF800000 = .inf true ∧
      unpack .s 0x80000000 = .fin true 0 (-149) ∧ unpack .s 0 = .fin false 0 (-149) ∧
      denotes .s 0xBF800000 (-1) ∧ (-1 : Rat) < 0 :=
  ⟨by decide +kernel, by decide +kernel, by decide +kernel, by decide +kernel, by decide +kernel,
    ⟨by unfold fitsFormat; decide, true, 2 ^ 23, -23, by decide +kernel, by norm_num [ratOf, signedMag]⟩, by norm_num⟩

/-- The classes of operand of the fused clauses of NaNResults, in both formats. -/
theorem witness_NaNResults_fused (F : Fmt) :
    (∃ p, unpack F p = .nan true) ∧ (∃ p, unpack F p = .nan false ∧ unpack F p ≠ .nan true) ∧
      unpack F (infinity true F) = .inf true ∧ unpack F (infinity false F) = .inf false ∧
      (unpack F (infinity true F)).isNaN = false ∧ (∃ n e, unpack F (zero true F) = .fin n 0 e) ∧
      (∃ n k e, k ≠ 0 ∧ unpack F (one F) = .fin n k e) ∧ (unpack F (one F)).isNaN = false := by
  cases F
  · exact ⟨⟨0x7F800001, by decide +kernel⟩, ⟨0x7FC00000, by decide +kernel⟩, by decide +kernel, by decide +kernel,
      by decide +kernel, ⟨true, -149, by decide +kernel⟩, ⟨false, 2 ^ 23, -23, by decide +kernel⟩, by decide +kernel⟩
  · exact ⟨⟨0x7FF0000000000001, by decide +kernel⟩, ⟨0x7FF8000000000000, by decide +kernel⟩, by decide +kernel,
      by decide +kernel, by decide +kernel, ⟨true, -1074, by decide +kernel⟩,
      ⟨false, 2 ^ 52, -52, by decide +kernel⟩, by decide +kernel⟩

/-- A single, the ends of the two 32-bit ranges, and an integer of the smallest target range. -/
theorem witness_ExactConversions :
    denotes .s (one .s) 1 ∧ (-2 ^ 31 : Int) ≤ -2 ^ 31 ∧ (2 ^ 32 - 1 : Int) < 2 ^ 32 ∧
      denotes .d (one .d) (1 : Int) ∧ intLo .wu ≤ 1 ∧ 1 ≤ intHi .w :=
  ⟨denotes_one .s, by norm_num, by norm_num, by simpa using denotes_one .d, by decide, by decide⟩

end Sys2Proof.Tests
end

section
/-! A fetched word, laid out in memory again as R54 says, is the bytes that memory holds: first for a parcel and for
a word as data, then for what fetch sees when no earlier parcel value is left. -/
namespace Sys2Proof.Machine

/-- A slice of a slice, where it lies wholly inside, is a slice of the whole. -/
theorem extractLsb'_extractLsb' {w i n j m : Nat} (x : BitVec w) (h : i + n ≤ m) :
    (x.extractLsb' j m).extractLsb' i n = x.extractLsb' (j + i) n := by
  apply BitVec.eq_of_getLsbD_eq
  intro k hk
  simp only [BitVec.getLsbD_extractLsb']
  grind

/-- The parcel that two bytes hold is laid out as these two bytes. -/
@[simp] theorem parcelBytes_parcelOf (e : Endian) (b0 b1 : Byte) : parcelBytes e (parcelOf e b0 b1) = [b0, b1] := by
  cases e with
  | little =>
    simp [parcelBytes, parcelOf, BitVec.extractLsb'_append_eq_left (a := b1) (b := b0),
      BitVec.extractLsb'_append_eq_right (a := b1) (b := b0)]
  | big =>
    simp [parcelBytes, parcelOf, BitVec.extractLsb'_append_eq_left (a := b0) (b := b1),
      BitVec.extractLsb'_append_eq_right (a := b0) (b := b1)]

/-- The word of two parcels is laid out as its low parcel and then its high one. -/
@[simp] theorem wordBytes_append (e : Endian) (hi lo : BitVec 16) :
    wordBytes e (hi ++ lo) = parcelBytes e lo ++ parcelBytes e hi := by
  simp [wordBytes, BitVec.extractLsb'_append_eq_left (a := hi) (b := lo),
    BitVec.extractLsb'_append_eq_right (a := hi) (b := lo)]

theorem wordBytes_little (w : InstWord) :
    wordBytes .little w = [w.extractLsb' 0 8, w.extractLsb' 8 8, w.extractLsb' 16 8, w.extractLsb' 24 8] := by
  simp [wordBytes, parcelBytes, extractLsb'_extractLsb']

theorem wordBytes_big (w : InstWord) :
    wordBytes .big w = [w.extractLsb' 8 8, w.extractLsb' 0 8, w.extractLsb' 24 8, w.extractLsb' 16 8] := by
  simp [wordBytes, parcelBytes, extractLsb'_extractLsb']

section
variable {s : State} {a : Nat}

theorem State.seenParcel_of_oldParcels_eq_nil (h : s.oldParcels a = []) : s.seenParcel a = currentParcel s.mem a := by
  simp [State.seenParcel, h]

/-- A parcel with no earlier value left is fetched from the two bytes that memory holds. -/
theorem State.fetchParcel_of_oldParcels_eq_nil (h : s.oldParcels a = []) :
    s.fetchParcel a = parcelOf s.endian (s.readByte a) (s.readByte (a + 1)) := by
  rw [State.fetchParcel, State.seenParcel_of_oldParcels_eq_nil h]
  rfl

/-- With no earlier value left for either parcel, the fetched word is laid out as the four bytes that memory holds. -/
theorem State.wordBytes_fetchWord (hlo : s.oldParcels a = []) (hhi : s.oldParcels (a + 2) = []) :
    wordBytes s.endian (s.fetchWord a) =
      [s.readByte a, s.readByte (a + 1), s.readByte (a + 2), s.readByte (a + 3)] := by
  rw [State.fetchWord, State.fetchParcel_of_oldParcels_eq_nil hlo, State.fetchParcel_of_oldParcels_eq_nil hhi]
  simp

end

/-- Settles O9: `State.wordBytes_fetchWord`, read off byte by byte in each byte order. -/
theorem fetchOrder : Obligations.FetchOrder := by
  intro s a hlo hhi
  have hbytes := State.wordBytes_fetchWord hlo hhi
  constructor
  · intro he
    rw [he, wordBytes_little] at hbytes
    simpa [eq_comm] using hbytes
  · intro he
    rw [he, wordBytes_big] at hbytes
    simpa [eq_comm] using hbytes

end Sys2Proof.Machine
end

section
/-! Decoding and encoding undo each other. A word is put together again from its fields (one equivalence per format);
from this, what each decoder reads from a word is an instruction of that word; and the word of each instruction is
read back as the instruction, from its bytes in either order. -/
namespace Sys2Proof

/-! ### When a word is the encoding of given fields (R92 to R101) -/

/-- `funct7` is the upper part of `funct10` (R101). -/
theorem funct7F_eq_funct10F (w : InstWord) : funct7F w = (funct10F w).extractLsb' 3 7 := by
  simp [funct7F, funct10F, Machine.extractLsb'_extractLsb']

/-- `funct3` is the lower part of `funct10` (R101). -/
theorem funct3F_eq_funct10F (w : InstWord) : funct3F w = (funct10F w).extractLsb' 0 3 := by
  simp [funct3F, funct10F, Machine.extractLsb'_extractLsb']

/-- The third source register of the R4-type stands where the R-type has `funct5` (R94, R100). -/
theorem funct5F_eq_rs3F (w : InstWord) : funct5F w = rs3F w := rfl

section FormatLaws
variable {rd rs1 rs2 f5 shw : BitVec 5} {f7 op : BitVec 7} {h6 sh : BitVec 6} {f3 rm : BitVec 3} {fmt : BitVec 2}
  {imm : BitVec 12} {imm20 : BitVec 20} {off : BitVec 25} {w : InstWord}

theorem encR_eq_iff : encR rd rs1 rs2 f7 f3 op = w ↔
    rd = rdF w ∧ rs1 = rs1F w ∧ rs2 = rs2F w ∧ f7 = funct7F w ∧ f3 = funct3F w ∧ op = opcodeF w := by
  constructor
  · rintro rfl
    simp [funct7F_eq_funct10F, BitVec.extractLsb'_append_eq_left (a := f7) (b := f3)]
  · rintro ⟨rfl, rfl, rfl, rfl, rfl, rfl⟩
    simp only [encR, rdF, rs1F, rs2F, funct7F, funct3F, opcodeF,
      BitVec.extractLsb'_append_extractLsb'_eq_extractLsb']
    exact BitVec.extractLsb'_eq_self

theorem encI_eq_iff : encI rd rs1 imm f3 op = w ↔
    rd = rdF w ∧ rs1 = rs1F w ∧ imm = iImmF w ∧ f3 = funct3F w ∧ op = opcodeF w := by
  constructor
  · rintro rfl
    simp
  · rintro ⟨rfl, rfl, rfl, rfl, rfl⟩
    simp only [encI, rdF, rs1F, iImmF, funct3F, opcodeF, BitVec.extractLsb'_append_extractLsb'_eq_extractLsb']
    exact BitVec.extractLsb'_eq_self

theorem encB_eq_iff : encB imm rs1 rs2 f3 op = w ↔
    imm = bImmF w ∧ rs1 = rs1F w ∧ rs2 = rs2F w ∧ f3 = funct3F w ∧ op = opcodeF w := by
  constructor
  · rintro rfl
    simp
  · rintro ⟨rfl, rfl, rfl, rfl, rfl⟩
    simp only [encB, bImmF, rs1F, rs2F, funct3F, opcodeF, BitVec.extractLsb'_append_eq_left,
      BitVec.extractLsb'_append_eq_right, BitVec.extractLsb'_append_extractLsb'_eq_extractLsb']
    exact BitVec.extractLsb'_eq_self

theorem encShift_eq_iff : encShift rd rs1 h6 sh f3 op = w ↔
    rd = rdF w ∧ rs1 = rs1F w ∧ h6 = shiftHiF w ∧ sh = shamtF w ∧ f3 = funct3F w ∧ op = opcodeF w := by
  constructor
  · rintro rfl
    simp
  · rintro ⟨rfl, rfl, rfl, rfl, rfl, rfl⟩
    simp only [encShift, rdF, rs1F, shiftHiF, shamtF, funct3F, opcodeF,
      BitVec.extractLsb'_append_extractLsb'_eq_extractLsb']
    exact BitVec.extractLsb'_eq_self

theorem encShiftW_eq_iff : encShiftW rd rs1 f7 shw f3 op = w ↔
    rd = rdF w ∧ rs1 = rs1F w ∧ f7 = shiftHiWF w ∧ shw = shamtwF w ∧ f3 = funct3F w ∧ op = opcodeF w := by
  constructor
  · rintro rfl
    simp
  · rintro ⟨rfl, rfl, rfl, rfl, rfl, rfl⟩
    simp only [encShiftW, rdF, rs1F, shiftHiWF, shamtwF, funct3F, opcodeF,
      BitVec.extractLsb'_append_extractLsb'_eq_extractLsb']
    exact BitVec.extractLsb'_eq_self

theorem encL_eq_iff : encL rd imm20 op = w ↔ rd = rdF w ∧ imm20 = imm20F w ∧ op = opcodeF w := by
  constructor
  · rintro rfl
    simp
  · rintro ⟨rfl, rfl, rfl⟩
    simp only [encL, rdF, imm20F, opcodeF, BitVec.extractLsb'_append_extractLsb'_eq_extractLsb']
    exact BitVec.extractLsb'_eq_self

theorem encJ_eq_iff : encJ off op = w ↔ off = off25F w ∧ op = opcodeF w := by
  constructor
  · rintro rfl
    simp
  · rintro ⟨rfl, rfl⟩
    simp only [encJ, off25F, opcodeF, BitVec.extractLsb'_append_extractLsb'_eq_extractLsb']
    exact BitVec.extractLsb'_eq_self

theorem encFp_eq_iff : encFp rd rs1 rs2 f5 rm fmt op = w ↔
    rd = rdF w ∧ rs1 = rs1F w ∧ rs2 = rs2F w ∧ f5 = funct5F w ∧ rm = rmF w ∧ fmt = fmtF w ∧ op = opcodeF w := by
  constructor
  · rintro rfl
    simp
  · rintro ⟨rfl, rfl, rfl, rfl, rfl, rfl, rfl⟩
    simp only [encFp, rdF, rs1F, rs2F, funct5F, rmF, fmtF, opcodeF,
      BitVec.extractLsb'_append_extractLsb'_eq_extractLsb']
    exact BitVec.extractLsb'_eq_self

end FormatLaws

/-! ### What each decoder reads from a word is an instruction of that word -/

/-- The answer of a decoder is an instruction whose word is `w`, or a refusal. -/
def Reads (w : InstWord) (r : Except DecodeError Instr) : Prop := ∀ i, r = .ok i → encode i = w

section DecoderLaws
variable {w : InstWord} {i : Instr} {f : BitVec 5} {r : Except DecodeError Instr} {e : DecodeError}

@[simp] theorem reads_ok_iff : Reads w (.ok i) ↔ encode i = w := by
  simp [Reads]

@[simp] theorem reads_error : Reads w (.error e) := by
  simp [Reads]

@[simp] theorem reads_needZero_iff : Reads w (needZero f i) ↔ (f = 0#5 → encode i = w) := by
  unfold needZero
  split <;> simp_all

@[simp] theorem reads_needRm0_iff : Reads w (needRm0 w r) ↔ (rmF w = 0b000#3 → Reads w r) := by
  unfold needRm0
  split <;> simp_all

@[simp] theorem reads_decodeCall_iff : Reads w (decodeCall w i) ↔ (rdF w = 0#5 → encode i = w) := by
  unfold decodeCall
  split <;> simp_all

theorem reads_decodeLoad (hop : opcodeF w = 0b0000011#7) : Reads w (decodeLoad w) := by
  unfold decodeLoad
  split <;> simp [encode, encI_eq_iff, *]

theorem reads_decodeLoadFp (hop : opcodeF w = 0b0000111#7) : Reads w (decodeLoadFp w) := by
  unfold decodeLoadFp
  split <;> simp [encode, encI_eq_iff, *]

theorem reads_decodeStore (hop : opcodeF w = 0b0100011#7) : Reads w (decodeStore w) := by
  unfold decodeStore
  split <;> simp [encode, encB_eq_iff, *]

theorem reads_decodeStoreFp (hop : opcodeF w = 0b0100111#7) : Reads w (decodeStoreFp w) := by
  unfold decodeStoreFp
  split <;> simp [encode, encB_eq_iff, *]

theorem reads_decodeAmo (hop : opcodeF w = 0b0101011#7) : Reads w (decodeAmo w) := by
  unfold decodeAmo
  split <;> simp [encode, encR_eq_iff, funct7F_eq_funct10F, funct3F_eq_funct10F, *]

theorem reads_decodeOp (hop : opcodeF w = 0b0110011#7) : Reads w (decodeOp w) := by
  unfold decodeOp
  split <;> simp [encode, encR_eq_iff, funct7F_eq_funct10F, funct3F_eq_funct10F, *]

theorem reads_decodeOp32 (hop : opcodeF w = 0b0111011#7) : Reads w (decodeOp32 w) := by
  unfold decodeOp32
  split <;> simp [encode, encR_eq_iff, funct7F_eq_funct10F, funct3F_eq_funct10F, *]

theorem reads_decodeBranch (hop : opcodeF w = 0b1100011#7) : Reads w (decodeBranch w) := by
  unfold decodeBranch
  split <;> simp [encode, encB_eq_iff, *]

theorem reads_decodeMiscMem (hop : opcodeF w = 0b0101111#7) : Reads w (decodeMiscMem w) := by
  unfold decodeMiscMem
  split <;> simp [encode, encI_eq_iff, *]

theorem reads_decodeShiftRight (hop : opcodeF w = 0b0010011#7) (hf3 : funct3F w = 0b101#3) :
    Reads w (decodeShiftRight w) := by
  unfold decodeShiftRight
  split <;> simp [encode, encShift_eq_iff, *]

theorem reads_decodeShiftLeft (hop : opcodeF w = 0b0010011#7) (hf3 : funct3F w = 0b001#3) :
    Reads w (decodeShiftLeft w) := by
  unfold decodeShiftLeft
  split <;> simp [encode, encShift_eq_iff, *]

theorem reads_decodeOpImm (hop : opcodeF w = 0b0010011#7) : Reads w (decodeOpImm w) := by
  unfold decodeOpImm
  split <;> simp [encode, encI_eq_iff, reads_decodeShiftLeft, reads_decodeShiftRight, *]

theorem reads_decodeShiftRightW (hop : opcodeF w = 0b0011011#7) (hf3 : funct3F w = 0b101#3) :
    Reads w (decodeShiftRightW w) := by
  unfold decodeShiftRightW
  split <;> simp [encode, encShiftW_eq_iff, *]

theorem reads_decodeShiftLeftW (hop : opcodeF w = 0b0011011#7) (hf3 : funct3F w = 0b001#3) :
    Reads w (decodeShiftLeftW w) := by
  unfold decodeShiftLeftW
  split <;> simp [encode, encShiftW_eq_iff, *]

theorem reads_decodeOpImm32 (hop : opcodeF w = 0b0011011#7) : Reads w (decodeOpImm32 w) := by
  unfold decodeOpImm32
  split <;> simp [encode, encI_eq_iff, reads_decodeShiftLeftW, reads_decodeShiftRightW, *]

theorem reads_decodeRdnpc (hop : opcodeF w = 0b1101011#7) (hf3 : funct3F w = 0b100#3) :
    Reads w (decodeRdnpc w) := by
  unfold decodeRdnpc
  split <;> simp [encode, encI_eq_iff, *]

theorem reads_decodeJalr (hop : opcodeF w = 0b1101011#7) : Reads w (decodeJalr w) := by
  unfold decodeJalr
  split <;> simp [encode, encI_eq_iff, reads_decodeRdnpc, *]

theorem reads_decodeSystemFunct (hop : opcodeF w = 0b1110111#7) (hrs1 : rs1F w = 0#5) (hrs2 : rs2F w = 0#5) :
    Reads w (decodeSystemFunct w) := by
  unfold decodeSystemFunct
  split <;> simp +contextual [encode, encR_eq_iff, funct7F_eq_funct10F, funct3F_eq_funct10F, *]

theorem reads_decodeSystem (hop : opcodeF w = 0b1110111#7) : Reads w (decodeSystem w) := by
  unfold decodeSystem
  split <;> simp [reads_decodeSystemFunct, *]

theorem reads_decodeMadd (hop : opcodeF w = 0b1000011#7) : Reads w (decodeMadd w) := by
  unfold decodeMadd
  split <;> simp [encode, encFp_eq_iff, funct5F_eq_rs3F, *]

theorem reads_decodeMsub (hop : opcodeF w = 0b1000111#7) : Reads w (decodeMsub w) := by
  unfold decodeMsub
  split <;> simp [encode, encFp_eq_iff, funct5F_eq_rs3F, *]

theorem reads_decodeNmsub (hop : opcodeF w = 0b1001011#7) : Reads w (decodeNmsub w) := by
  unfold decodeNmsub
  split <;> simp [encode, encFp_eq_iff, funct5F_eq_rs3F, *]

theorem reads_decodeNmadd (hop : opcodeF w = 0b1001111#7) : Reads w (decodeNmadd w) := by
  unfold decodeNmadd
  split <;> simp [encode, encFp_eq_iff, funct5F_eq_rs3F, *]

theorem reads_decodeOpFpS (hop : opcodeF w = 0b1010011#7) (hfmt : fmtF w = 0b00#2) : Reads w (decodeOpFpS w) := by
  unfold decodeOpFpS
  split <;> simp +contextual [encode, encFp_eq_iff, *]

theorem reads_decodeOpFpD (hop : opcodeF w = 0b1010011#7) (hfmt : fmtF w = 0b01#2) : Reads w (decodeOpFpD w) := by
  unfold decodeOpFpD
  split <;> simp +contextual [encode, encFp_eq_iff, *]

theorem reads_decodeOpFp (hop : opcodeF w = 0b1010011#7) : Reads w (decodeOpFp w) := by
  unfold decodeOpFp
  split <;> simp [reads_decodeOpFpS, reads_decodeOpFpD, *]

theorem reads_decodeMajor (w : InstWord) : Reads w (decodeMajor w) := by
  unfold decodeMajor
  split
  next hop => exact reads_decodeLoad hop
  next hop => exact reads_decodeLoadFp hop
  next hop => exact reads_decodeOpImm hop
  next hop => exact reads_decodeOpImm32 hop
  next hop => exact reads_decodeStore hop
  next hop => exact reads_decodeStoreFp hop
  next hop => exact reads_decodeAmo hop
  next hop => exact reads_decodeMiscMem hop
  next hop => exact reads_decodeOp hop
  next hop => simp [encode, encL_eq_iff, hop]
  next hop => exact reads_decodeOp32 hop
  next hop => exact reads_decodeMadd hop
  next hop => exact reads_decodeMsub hop
  next hop => exact reads_decodeNmsub hop
  next hop => exact reads_decodeNmadd hop
  next hop => exact reads_decodeOpFp hop
  next hop => exact reads_decodeBranch hop
  next hop => simp [encode, encJ_eq_iff, hop]
  next hop => exact reads_decodeJalr hop
  next hop => simp [encode, encJ_eq_iff, hop]
  next hop => exact reads_decodeSystem hop
  next => exact reads_error

theorem reads_decodeWord (w : InstWord) : Reads w (decodeWord w) := by
  unfold decodeWord
  split_ifs
  · exact reads_error
  · exact reads_error
  · exact reads_decodeMajor w

end DecoderLaws

/-- Settles O2: every decoder below the opcode map reads an instruction of the word it is given. -/
theorem encodeDecode : Obligations.EncodeDecode := reads_decodeWord

/-! ### The word of each instruction is read back as the instruction -/

/-- No instruction's word is taken for a compressed or a longer encoding (R110, R111). -/
theorem decodeWord_encode_eq_decodeMajor (i : Instr) : decodeWord (encode i) = decodeMajor (encode i) := by
  apply decodeWord_of_opcode
  · cases i <;> simp [encode]
  · cases i <;> simp [encode]

/-- The cases follow the major opcode map (R107). -/
theorem decodeMajor_encode (i : Instr) : decodeMajor (encode i) = .ok i := by
  cases i with
  | lb | lh | lw | ld | lbu | lhu | lwu => simp [encode, decodeMajor, decodeLoad]
  | flw | fld => simp [encode, decodeMajor, decodeLoadFp]
  | addi | slti | sltiu | andi | ori | xori => simp [encode, decodeMajor, decodeOpImm]
  | slli => simp [encode, decodeMajor, decodeOpImm, decodeShiftLeft]
  | srli | srai => simp [encode, decodeMajor, decodeOpImm, decodeShiftRight]
  | addiw => simp [encode, decodeMajor, decodeOpImm32]
  | slliw => simp [encode, decodeMajor, decodeOpImm32, decodeShiftLeftW]
  | srliw | sraiw => simp [encode, decodeMajor, decodeOpImm32, decodeShiftRightW]
  | sb | sh | sw | sd => simp [encode, decodeMajor, decodeStore]
  | fsw | fsd => simp [encode, decodeMajor, decodeStoreFp]
  | amoaddW | amoswapW | amoandW | amoorW | amominW | amomaxW | amominuW | amomaxuW
  | amoaddD | amoswapD | amoandD | amoorD | amominD | amomaxD | amominuD | amomaxuD =>
    simp [encode, decodeMajor, decodeAmo]
  | fence | fenceI => simp [encode, decodeMajor, decodeMiscMem]
  | add | sub | slt | sltu | and | or | xor | sll | srl | sra
  | mul | mulh | mulhu | mulhsu | div | divu | rem | remu => simp [encode, decodeMajor, decodeOp]
  | lui => simp [encode, decodeMajor]
  | addw | subw | sllw | srlw | sraw | mulw | divw | divuw | remw | remuw => simp [encode, decodeMajor, decodeOp32]
  | fmaddS | fmaddD => simp [encode, decodeMajor, decodeMadd]
  | fmsubS | fmsubD => simp [encode, decodeMajor, decodeMsub]
  | fnmsubS | fnmsubD => simp [encode, decodeMajor, decodeNmsub]
  | fnmaddS | fnmaddD => simp [encode, decodeMajor, decodeNmadd]
  | faddS | fsubS | fmulS | fdivS | fsqrtS | fminS | fmaxS | fcvtLS | fcvtLuS | fcvtWS | fcvtWuS | fcvtSL | fcvtSLu
  | fcvtSW | fcvtSWu | fcvtSD | fsgnjS | fsgnjnS | fsgnjxS | mftxS | mxtfS | mffsr | mtfsr | feqS | fltS | fleS =>
    simp [encode, decodeMajor, decodeOpFp, decodeOpFpS, needZero, needRm0]
  | faddD | fsubD | fmulD | fdivD | fsqrtD | fminD | fmaxD | fcvtLD | fcvtLuD | fcvtWD | fcvtWuD | fcvtDL | fcvtDLu
  | fcvtDW | fcvtDWu | fcvtDS | fsgnjD | fsgnjnD | fsgnjxD | mftxD | mxtfD | feqD | fltD | fleD =>
    simp [encode, decodeMajor, decodeOpFp, decodeOpFpD, needZero, needRm0]
  | beq | bne | blt | bge | bltu | bgeu => simp [encode, decodeMajor, decodeBranch]
  | j | jal => simp [encode, decodeMajor]
  | jalrC | jalrR | jalrJ => simp [encode, decodeMajor, decodeJalr]
  | rdnpc => simp [encode, decodeMajor, decodeJalr, decodeRdnpc]
  | syscall | brk => simp [encode, decodeMajor, decodeSystem, decodeSystemFunct, decodeCall]
  | rdcycle | rdtime | rdinstret => simp [encode, decodeMajor, decodeSystem, decodeSystemFunct]

theorem decodeWord_encode (i : Instr) : decodeWord (encode i) = .ok i :=
  (decodeWord_encode_eq_decodeMajor i).trans (decodeMajor_encode i)

/-- A parcel is laid out as two bytes that hold it. -/
theorem exists_parcelBytes_eq (e : Endian) (p : BitVec 16) :
    ∃ b0 b1, parcelBytes e p = [b0, b1] ∧ parcelOf e b0 b1 = p := by
  have hp : p.extractLsb' 8 8 ++ p.extractLsb' 0 8 = p := by
    simp only [BitVec.extractLsb'_append_extractLsb'_eq_extractLsb']
    exact BitVec.extractLsb'_eq_self
  cases e with
  | little => exact ⟨_, _, rfl, hp⟩
  | big => exact ⟨_, _, rfl, hp⟩

/-- A word is its high parcel and then its low one. -/
theorem append_parcels_eq_self (w : InstWord) : w.extractLsb' 16 16 ++ w.extractLsb' 0 16 = w := by
  simp only [BitVec.extractLsb'_append_extractLsb'_eq_extractLsb']
  exact BitVec.extractLsb'_eq_self

/-- The bytes of a word are decoded as the word, in either byte order (R54). -/
theorem decodeBytes_wordBytes (e : Endian) {w : InstWord} {i : Instr} (rest : List Byte) (h : decodeWord w = .ok i) :
    decodeBytes e (wordBytes e w ++ rest) = .ok (i, rest) := by
  obtain ⟨b0, b1, hlo, hlo'⟩ := exists_parcelBytes_eq e (w.extractLsb' 0 16)
  obtain ⟨b2, b3, hhi, hhi'⟩ := exists_parcelBytes_eq e (w.extractLsb' 16 16)
  simp [wordBytes, hlo, hhi, decodeBytes, hlo', hhi', append_parcels_eq_self, h]

/-- Settles O1: the bytes give the word, and the word gives the instruction. -/
theorem decodeEncode : Obligations.DecodeEncode := fun e i rest =>
  decodeBytes_wordBytes e rest (decodeWord_encode i)

end Sys2Proof
end

section
/-! What it takes for an instruction that writes one x register to complete. The frame is proved once for `writeX`; a
value is given as the `XPRLEN`-bit vector `BitVec.ofInt` of a number, so that the operations are dealt with at every
width at once and no later proof splits on the variant. From these, the integer register-immediate instructions and
those that share their operations (R201 to R212, R231 to R237, R241, R242, R251). -/
namespace Sys2Proof.Machine

/-! ### Operands at the width of a register -/

/-- `x[r]` as an `XPRLEN`-bit vector. -/
def State.xBits (s : State) (r : XReg) : BitVec s.xlen.bits := (s.getX r).setWidth s.xlen.bits

@[simp] theorem State.toNat_xBits (s : State) (r : XReg) : (s.xBits r).toNat = s.ux r := by
  rw [State.xBits, BitVec.toNat_setWidth, Nat.mod_eq_of_lt (s.getX_lt r), State.ux]

@[simp] theorem State.toInt_xBits (s : State) (r : XReg) : (s.xBits r).toInt = s.sx r := by
  unfold State.xBits State.sx
  cases s.xlen with
  | rv32 => rfl
  | rv64 => exact congrArg BitVec.toInt (BitVec.setWidth_eq _)

theorem State.toNat_setWidth_getX_low (s : State) (r : XReg) : ((s.getX r).setWidth 32).toNat = s.uxLow r :=
  BitVec.toNat_setWidth ..

/-- A narrower vector holds the same number, modulo the smaller power of two. -/
theorem setWidth_ofInt {n m : Nat} (h : n ≤ m) (v : Int) : (BitVec.ofInt m v).setWidth n = BitVec.ofInt n v := by
  have hdvd : ((2 ^ n : Nat) : Int) ∣ (2 ^ m : Nat) := Int.natCast_dvd_natCast.mpr (Nat.pow_dvd_pow 2 h)
  apply BitVec.eq_of_toNat_eq
  rw [BitVec.toNat_setWidth, BitVec.toNat_ofInt, BitVec.toNat_ofInt, ← Int.emod_emod_of_dvd v hdvd,
    Int.toNat_emod (Int.emod_nonneg _ (by positivity)) (Int.natCast_nonneg _), Int.toNat_natCast]

theorem setWidth_immWord {n : Nat} (h : n ≤ 64) (imm : BitVec 12) : (immWord imm).setWidth n = imm.signExtend n :=
  setWidth_ofInt h imm.toInt

/-- A sign-extended immediate, read as an unsigned number. -/
theorem toNat_signExtend_imm (n : Nat) (imm : BitVec 12) :
    (imm.signExtend n).toNat = (imm.toInt % (2 ^ n : Nat)).toNat := BitVec.toNat_ofInt _

theorem natCast_toNat_signExtend_imm (n : Nat) (imm : BitVec 12) :
    ((imm.signExtend n).toNat : Int) = imm.toInt % (2 ^ n : Nat) := by
  rw [toNat_signExtend_imm, Int.toNat_of_nonneg (Int.emod_nonneg _ (by positivity))]

/-- A sign-extended immediate, read as a signed number. -/
theorem toInt_signExtend_imm (xl : Xlen) (imm : BitVec 12) : (imm.signExtend xl.bits).toInt = imm.toInt :=
  BitVec.toInt_signExtend_of_le (by cases xl <;> decide)

/-- The operation that the variant chooses is the one at `XPRLEN` bits. -/
theorem setWidth_liftX (xl : Xlen) (op : (n : Nat) → BitVec n → BitVec n → BitVec n) (a b : Word) :
    (liftX xl op a b).setWidth xl.bits = op xl.bits (a.setWidth xl.bits) (b.setWidth xl.bits) := by
  cases xl with
  | rv32 => exact (BitVec.setWidth_setWidth_of_le _ (by decide)).trans (BitVec.setWidth_eq _)
  | rv64 => simp [liftX, Xlen.bits]

theorem testX_eq (xl : Xlen) (test : (n : Nat) → BitVec n → BitVec n → Bool) (a b : Word) :
    testX xl test a b = test xl.bits (a.setWidth xl.bits) (b.setWidth xl.bits) := by
  cases xl with
  | rv32 => rfl
  | rv64 => simp [testX, Xlen.bits]

/-! ### The shift amounts of the variant (R207) -/

theorem getLsbD_five_eq_decide (sh : BitVec 6) : sh.getLsbD 5 = decide (32 ≤ sh.toNat) :=
  (BitVec.msb_eq_getLsbD_last sh).symm.trans (BitVec.msb_eq_decide sh)

theorem shamtLegal_of_lt {i : Instr} {sh : BitVec 6} {s : State} (k : Out) (h : sh.toNat < s.xlen.bits) :
    shamtLegal i sh s k = k := by
  refine shamtLegal_of_legal k ?_
  cases hx : s.xlen with
  | rv64 => exact .inl rfl
  | rv32 =>
    rw [hx] at h
    exact .inr ((getLsbD_five_eq_decide sh).trans (decide_eq_false (Nat.not_le.mpr h)))

/-- Only RV32 has amounts that are too large, as six bits hold no more than 63. -/
theorem shamtLegal_of_bits_le {i : Instr} {sh : BitVec 6} {s : State} (k : Out) (h : s.xlen.bits ≤ sh.toNat) :
    shamtLegal i sh s k = .fault (.illegalInstruction s.pcVal (encode i)) := by
  cases hx : s.xlen with
  | rv64 =>
    rw [hx] at h
    exact absurd sh.isLt (Nat.not_lt.mpr h)
  | rv32 =>
    rw [hx] at h
    have h5 : sh.getLsbD 5 = true := (getLsbD_five_eq_decide sh).trans (decide_eq_true h)
    simp [shamtLegal, hx, h5, raiseIllegal, raiseIllegalWord, raise]

/-- An amount that is less than XPRLEN is what a shift reads of it. -/
theorem toNat_setWidth_shamt_mod {xl : Xlen} {sh : BitVec 6} (h : sh.toNat < xl.bits) :
    (sh.setWidth xl.bits).toNat % xl.bits = sh.toNat := by
  rw [BitVec.toNat_setWidth, Nat.mod_eq_of_lt (h.trans Nat.lt_two_pow_self), Nat.mod_eq_of_lt h]

/-! ### Completion -/

section
variable {i : Instr} {s : State} {rd rs1 rs2 : XReg} {imm : BitVec 12} {sh : BitVec 6} {w b : Word} {v : Int}
  {op : (n : Nat) → BitVec n → BitVec n → BitVec n} {test : (n : Nat) → BitVec n → BitVec n → Bool}

/-- A write of an x register changes that register and the pc only. -/
theorem xFrame_setX_advance (s : State) (rd : XReg) (w : Word) : XFrame rd s (s.setX rd w).advance where
  x := ⟨State.getX_zero _, fun _ h => s.getX_setX_of_ne w h⟩
  f _ := rfl
  fsr := rfl
  mem _ := rfl
  fetch := rfl
  rest := ⟨rfl, rfl, rfl, rfl, rfl⟩
  pc := State.toNat_pcVal_advance _

/-- A word that holds the number `v` in its low `XPRLEN` bits is read back as `v` modulo 2^XPRLEN. -/
theorem toNat_wrap_of_setWidth_eq {xl : Xlen} (h : w.setWidth xl.bits = BitVec.ofInt xl.bits v) :
    ((xl.wrap w).toNat : Int) = v % (2 ^ xl.bits : Nat) := by
  have hnat : (xl.wrap w).toNat = (v % (2 ^ xl.bits : Nat)).toNat := by
    rw [toNat_wrap, ← BitVec.toNat_setWidth, h, BitVec.toNat_ofInt]
  rw [hnat, Int.toNat_of_nonneg (Int.emod_nonneg _ (by positivity))]

theorem completesX_of_writeX (hexec : exec i s = writeX rd w s)
    (hval : w.setWidth s.xlen.bits = BitVec.ofInt s.xlen.bits v) : CompletesX i s rd v := by
  refine ⟨_, hexec, xFrame_setX_advance s rd w, ?_⟩
  rw [State.ux, State.advance_getX, State.getX_setX_self]
  split
  · rfl
  · exact toNat_wrap_of_setWidth_eq hval

/-- `regReg`, `regImm` and `regShift` complete: they write an operation on a register and a second word. -/
theorem completesX_of_liftX (hexec : exec i s = writeX rd (liftX s.xlen op (s.getX rs1) b) s)
    (hval : op s.xlen.bits (s.xBits rs1) (b.setWidth s.xlen.bits) = BitVec.ofInt s.xlen.bits v) :
    CompletesX i s rd v :=
  completesX_of_writeX hexec ((setWidth_liftX ..).trans hval)

theorem completesX_of_regReg (hexec : exec i s = regReg op rd rs1 rs2 s)
    (hval : op s.xlen.bits (s.xBits rs1) (s.xBits rs2) = BitVec.ofInt s.xlen.bits v) : CompletesX i s rd v :=
  completesX_of_liftX hexec hval

theorem completesX_of_regImm (hexec : exec i s = regImm op rd rs1 imm s)
    (hval : op s.xlen.bits (s.xBits rs1) (imm.signExtend s.xlen.bits) = BitVec.ofInt s.xlen.bits v) :
    CompletesX i s rd v :=
  completesX_of_liftX hexec (by rw [setWidth_immWord (bits_le _), hval])

/-- A comparison writes 1 or 0, as what it tests holds or not. -/
theorem completesX_of_compareX {p : Prop} [Decidable p] (hexec : exec i s = compareX test rd rs1 b s)
    (htest : test s.xlen.bits (s.xBits rs1) (b.setWidth s.xlen.bits) = decide p) :
    CompletesX i s rd (if p then 1 else 0) := by
  refine completesX_of_writeX hexec ?_
  rw [testX_eq, ← State.xBits, htest, boolWord]
  by_cases h : p
  · simpa [h] using setWidth_ofInt (bits_le s.xlen) 1
  · simp [h]

/-- A shift by a constant that is less than XPRLEN is legal and shifts by that constant. -/
theorem completesX_of_regShift (hsh : sh.toNat < s.xlen.bits)
    (hexec : exec i s = shamtLegal i sh s (regShift op rd rs1 sh s))
    (hval : op s.xlen.bits (s.xBits rs1) (sh.setWidth s.xlen.bits) = BitVec.ofInt s.xlen.bits v) :
    CompletesX i s rd v :=
  completesX_of_liftX (hexec.trans (shamtLegal_of_lt _ hsh))
    (by rw [BitVec.setWidth_setWidth_of_le _ (bits_le _), hval])

/-- A W instruction on RV64 writes its 32-bit result as a signed number. -/
theorem completesX_of_regW (hx : s.xlen = .rv64) (hexec : exec i s = rv64Only i s (regW op rd rs1 b s))
    (hval : (op 32 ((s.getX rs1).setWidth 32) (b.setWidth 32)).toInt = v) : CompletesX i s rd v :=
  completesX_of_writeX (hexec.trans (rv64Only_of_rv64 _ hx)) (hval ▸ setWidth_ofInt (bits_le _) _)

theorem trapsIllegal_of_shamtLegal {k : Out} (hsh : s.xlen.bits ≤ sh.toNat) (hexec : exec i s = shamtLegal i sh s k) :
    TrapsIllegal i s := hexec.trans (shamtLegal_of_bits_le k hsh)

theorem trapsIllegal_of_rv64Only {k : Out} (hx : s.xlen = .rv32) (hexec : exec i s = rv64Only i s k) :
    TrapsIllegal i s := hexec.trans (rv64Only_of_rv32 k hx)

end

/-! ### What the operations compute, at every width -/

section
variable {n : Nat} (a b : BitVec n) (imm : BitVec 12)

theorem addOp_eq_ofInt : addOp n a b = BitVec.ofInt n (a.toNat + b.toNat) := by
  simp [addOp, BitVec.ofInt_add, BitVec.ofInt_natCast]

theorem addOp_signExtend_eq_ofInt : addOp n a (imm.signExtend n) = BitVec.ofInt n (a.toNat + imm.toInt) := by
  simp [addOp, BitVec.ofInt_add, BitVec.ofInt_natCast, BitVec.signExtend]

theorem subOp_eq_ofInt : subOp n a b = BitVec.ofInt n (a.toNat - b.toNat) := by
  simp [subOp, Int.sub_eq_add_neg, BitVec.ofInt_add, BitVec.ofInt_neg, BitVec.ofInt_natCast, BitVec.sub_eq_add_neg]

theorem mulOp_eq_ofInt : mulOp n a b = BitVec.ofInt n (a.toNat * b.toNat) := by
  simp [mulOp, BitVec.ofInt_mul, BitVec.ofInt_natCast]

/-- A vector is the number that it reads as. -/
theorem eq_ofInt_of_toNat_eq {k : Nat} (h : a.toNat = k) : a = BitVec.ofInt n k := by
  rw [BitVec.ofInt_natCast, ← h, BitVec.ofNat_toNat, BitVec.setWidth_eq]

theorem andOp_eq_ofInt : andOp n a b = BitVec.ofInt n (a.toNat &&& b.toNat : Nat) :=
  eq_ofInt_of_toNat_eq _ (BitVec.toNat_and ..)

theorem orOp_eq_ofInt : orOp n a b = BitVec.ofInt n (a.toNat ||| b.toNat : Nat) :=
  eq_ofInt_of_toNat_eq _ (BitVec.toNat_or ..)

theorem xorOp_eq_ofInt : xorOp n a b = BitVec.ofInt n (a.toNat ^^^ b.toNat : Nat) :=
  eq_ofInt_of_toNat_eq _ (BitVec.toNat_xor ..)

theorem sllOp_eq_ofInt : sllOp n a b = BitVec.ofInt n (a.toNat * 2 ^ (b.toNat % n) : Nat) := by
  apply BitVec.eq_of_toNat_eq
  rw [sllOp, BitVec.toNat_shiftLeft, Nat.shiftLeft_eq, BitVec.ofInt_natCast, BitVec.toNat_ofNat]

theorem srlOp_eq_ofInt : srlOp n a b = BitVec.ofInt n (a.toNat / 2 ^ (b.toNat % n) : Nat) :=
  eq_ofInt_of_toNat_eq _ (by rw [srlOp, BitVec.toNat_ushiftRight, Nat.shiftRight_eq_div_pow])

theorem sraOp_eq_ofInt : sraOp n a b = BitVec.ofInt n (a.toInt / 2 ^ (b.toNat % n)) := by
  rw [sraOp, BitVec.sshiftRight_eq, Int.shiftRight_eq_div_pow, Int.natCast_pow, Int.cast_ofNat_Int]

end

/-! ### The obligations -/

/-- Settles O12: the three operations modulo 2^XPRLEN, written by `regReg` and `regImm`. -/
theorem addSub : Obligations.AddSub := by
  intro s rd rs1 rs2 imm
  refine ⟨completesX_of_regReg rfl ?add, completesX_of_regReg rfl ?sub, completesX_of_regImm rfl ?addi⟩
  case add => simp [addOp_eq_ofInt]
  case sub => simp [subOp_eq_ofInt]
  case addi => simp [addOp_signExtend_eq_ofInt]

/-- Settles O13: the bitwise operations on the operands, of which an immediate is sign-extended. -/
theorem logic : Obligations.Logic := by
  intro s rd rs1 rs2 imm
  refine ⟨completesX_of_regReg rfl ?and, completesX_of_regReg rfl ?or, completesX_of_regReg rfl ?xor,
    completesX_of_regImm rfl ?andi, completesX_of_regImm rfl ?ori, completesX_of_regImm rfl ?xori⟩
  case and => simp [andOp_eq_ofInt]
  case or => simp [orOp_eq_ofInt]
  case xor => simp [xorOp_eq_ofInt]
  case andi => simp [andOp_eq_ofInt, toNat_signExtend_imm, State.modulus]
  case ori => simp [orOp_eq_ofInt, toNat_signExtend_imm, State.modulus]
  case xori => simp [xorOp_eq_ofInt, toNat_signExtend_imm, State.modulus]

/-- Settles O14: the comparison is of the readings of the two operands, of which an immediate is sign-extended. -/
theorem setLess : Obligations.SetLess := by
  intro s rd rs1 rs2 imm
  refine ⟨completesX_of_compareX rfl ?slt, completesX_of_compareX rfl ?sltu, completesX_of_compareX rfl ?slti,
    completesX_of_compareX rfl ?sltiu⟩
  case slt => rw [← State.xBits, sltTest, State.toInt_xBits, State.toInt_xBits]
  case sltu => rw [← State.xBits, ultTest, State.toNat_xBits, State.toNat_xBits]
  case slti => rw [setWidth_immWord (bits_le _), sltTest, State.toInt_xBits, toInt_signExtend_imm]
  case sltiu =>
    rw [setWidth_immWord (bits_le _), ultTest, decide_eq_decide, State.toNat_xBits, State.modulus,
      ← natCast_toNat_signExtend_imm, Int.ofNat_lt]

/-- Settles O16: an amount either is what the shift reads, or has its sixth bit set on RV32. -/
theorem shiftImm : Obligations.ShiftImm := by
  intro s rd rs1 sh
  constructor
  · intro hlt
    refine ⟨completesX_of_regShift hlt rfl ?slli, completesX_of_regShift hlt rfl ?srli,
      completesX_of_regShift hlt rfl ?srai⟩
    case slli => rw [sllOp_eq_ofInt, toNat_setWidth_shamt_mod hlt, State.toNat_xBits]
    case srli => rw [srlOp_eq_ofInt, toNat_setWidth_shamt_mod hlt, State.toNat_xBits]
    case srai => rw [sraOp_eq_ofInt, toNat_setWidth_shamt_mod hlt, State.toInt_xBits]
  · intro hle
    exact ⟨trapsIllegal_of_shamtLegal hle rfl, trapsIllegal_of_shamtLegal hle rfl,
      trapsIllegal_of_shamtLegal hle rfl⟩

/-- Settles O17: LUI's word is the immediate with twelve zeros below it, read as a signed number. -/
theorem luiResult : Obligations.LuiResult := by
  intro s rd imm
  refine completesX_of_writeX rfl ?_
  rw [luiWord, BitVec.signExtend, setWidth_ofInt (bits_le _), BitVec.toInt_append_zero, Int.mul_comm]

/-- Settles O18: on RV64 the operations at 32 bits on the low words; on RV32 each row is missing. -/
theorem wordArith : Obligations.WordArith := by
  intro s rd rs1 rs2 imm
  constructor
  · intro hx
    refine ⟨completesX_of_regW hx rfl ?addw, completesX_of_regW hx rfl ?subw, completesX_of_regW hx rfl ?addiw,
      completesX_of_regW hx rfl ?mulw⟩
    case addw => simp only [addOp_eq_ofInt, BitVec.toInt_ofInt, State.toNat_setWidth_getX_low]
    case subw => simp only [subOp_eq_ofInt, BitVec.toInt_ofInt, State.toNat_setWidth_getX_low]
    case addiw =>
      rw [setWidth_immWord (by decide), addOp_signExtend_eq_ofInt, BitVec.toInt_ofInt, State.toNat_setWidth_getX_low]
    case mulw => simp only [mulOp_eq_ofInt, BitVec.toInt_ofInt, State.toNat_setWidth_getX_low]
  · intro hx
    exact ⟨trapsIllegal_of_rv64Only hx rfl, trapsIllegal_of_rv64Only hx rfl, trapsIllegal_of_rv64Only hx rfl,
      trapsIllegal_of_rv64Only hx rfl⟩

end Sys2Proof.Machine
end

section
/-! The shifts by a register (R238 to R240, R263) and the W shifts (R213 to R215, R243 to R245, R217): the results
are those of the operations at every width, so what is left to say is which number a shift reads as its amount. -/
namespace Sys2Proof.Machine

/-! ### The amounts of the W shifts -/

/-- The low five bits of rs2 lie in its low word. -/
theorem State.toNat_setWidth_getX_mod (s : State) (r : XReg) :
    ((s.getX r).setWidth 32).toNat % 32 = s.ux r % 32 := by
  rw [State.toNat_setWidth_getX_low, State.uxLow, Nat.mod_mod_of_dvd _ (by decide)]

/-- A five-bit constant is the amount of a W shift as it stands. -/
theorem toNat_setWidth_shamtw_mod (sh : BitVec 5) : ((sh.setWidth 64).setWidth 32).toNat % 32 = sh.toNat := by
  rw [BitVec.setWidth_setWidth_of_le _ (by decide), BitVec.toNat_setWidth_of_le (by decide),
    Nat.mod_eq_of_lt sh.isLt]

/-! ### The W shifts, by any amount -/

section
variable {i : Instr} {s : State} {rd rs1 : XReg} {b : Word} {k : Nat}

theorem completesX_of_regW_sll (hx : s.xlen = .rv64) (hexec : exec i s = rv64Only i s (regW sllOp rd rs1 b s))
    (hk : (b.setWidth 32).toNat % 32 = k) : CompletesX i s rd (Int.bmod (s.uxLow rs1 * 2 ^ k) (2 ^ 32)) := by
  refine completesX_of_regW hx hexec ?_
  rw [sllOp_eq_ofInt, BitVec.toInt_ofInt, hk, State.toNat_setWidth_getX_low]
  norm_cast

theorem completesX_of_regW_srl (hx : s.xlen = .rv64) (hexec : exec i s = rv64Only i s (regW srlOp rd rs1 b s))
    (hk : (b.setWidth 32).toNat % 32 = k) : CompletesX i s rd (Int.bmod (s.uxLow rs1 / 2 ^ k) (2 ^ 32)) := by
  refine completesX_of_regW hx hexec ?_
  rw [srlOp_eq_ofInt, BitVec.toInt_ofInt, hk, State.toNat_setWidth_getX_low]
  norm_cast

/-- The quotient of a signed number by a power of two needs no reduction: it fits where the number does. -/
theorem completesX_of_regW_sra (hx : s.xlen = .rv64) (hexec : exec i s = rv64Only i s (regW sraOp rd rs1 b s))
    (hk : (b.setWidth 32).toNat % 32 = k) : CompletesX i s rd (s.sxLow rs1 / 2 ^ k) := by
  refine completesX_of_regW hx hexec ?_
  rw [sraOp, BitVec.toInt_sshiftRight, hk, Int.shiftRight_eq_div_pow, ← State.sxLow]
  norm_cast

end

/-! ### The obligations -/

/-- Settles O15: the three shifts at XPRLEN bits, whose amount is rs2 modulo XPRLEN. -/
theorem shiftReg : Obligations.ShiftReg := by
  intro s rd rs1 rs2
  refine ⟨completesX_of_regReg rfl ?sll, completesX_of_regReg rfl ?srl, completesX_of_regReg rfl ?sra⟩
  case sll => rw [sllOp_eq_ofInt, State.toNat_xBits, State.toNat_xBits]
  case srl => rw [srlOp_eq_ofInt, State.toNat_xBits, State.toNat_xBits]
  case sra => rw [sraOp_eq_ofInt, State.toInt_xBits, State.toNat_xBits]

/-- Settles O19: on RV64 each of the three shifts of the low word, by either kind of amount; on RV32 each row is
missing. -/
theorem wordShift : Obligations.WordShift := by
  intro s rd rs1 rs2 sh
  constructor
  · intro hx
    have hreg : ((s.getX rs2).setWidth 32).toNat % 32 = s.ux rs2 % 32 := s.toNat_setWidth_getX_mod rs2
    have himm : ((sh.setWidth 64).setWidth 32).toNat % 32 = sh.toNat := toNat_setWidth_shamtw_mod sh
    exact ⟨completesX_of_regW_sll hx rfl hreg, completesX_of_regW_srl hx rfl hreg, completesX_of_regW_sra hx rfl hreg,
      completesX_of_regW_sll hx rfl himm, completesX_of_regW_srl hx rfl himm, completesX_of_regW_sra hx rfl himm⟩
  · intro hx
    exact ⟨trapsIllegal_of_rv64Only hx rfl, trapsIllegal_of_rv64Only hx rfl, trapsIllegal_of_rv64Only hx rfl,
      trapsIllegal_of_rv64Only hx rfl, trapsIllegal_of_rv64Only hx rfl, trapsIllegal_of_rv64Only hx rfl⟩

end Sys2Proof.Machine
end

section
/-! The transfers of control (R280 to R294). The three forms of a transfer complete by one lemma each: a jump to a
word, a linking jump to a word, and a branch on a Boolean. What is then left to say of an instruction is which number
its target word holds (R63, D5), or which comparison of its operands it tests. -/
namespace Sys2Proof.Machine

/-! ### The words that stand for targets -/

/-- A byte offset is twice its sign-extended immediate (R103, R105). -/
theorem signExtend_shiftLeft_one_eq_ofInt {n : Nat} (m : Nat) (off : BitVec n) :
    off.signExtend m <<< 1 = BitVec.ofInt m (2 * off.toInt) := by
  have htwo : BitVec.twoPow m 1 = BitVec.ofInt m 2 := BitVec.eq_of_toNat_eq (by simp)
  rw [BitVec.shiftLeft_eq_mul_twoPow, htwo, BitVec.mul_comm, BitVec.ofInt_mul, BitVec.signExtend]

/-- A word and an offset, added as words, hold the sum of their numbers. -/
theorem add_ofInt_eq_ofInt (w : Word) (v : Int) : w + BitVec.ofInt 64 v = BitVec.ofInt 64 (w.toNat + v) := by
  simp [BitVec.ofInt_add, BitVec.ofInt_natCast]

theorem State.pcVal_add_branchOffset (s : State) (imm : BitVec 12) :
    s.pcVal + branchOffset imm = BitVec.ofInt 64 (s.pcVal.toNat + 2 * imm.toInt) := by
  rw [branchOffset, signExtend_shiftLeft_one_eq_ofInt, add_ofInt_eq_ofInt]

theorem State.pcVal_add_jumpOffset (s : State) (off : BitVec 25) :
    s.pcVal + jumpOffset off = BitVec.ofInt 64 (s.pcVal.toNat + 2 * off.toInt) := by
  rw [jumpOffset, signExtend_shiftLeft_one_eq_ofInt, add_ofInt_eq_ofInt]

theorem State.pcVal_add_four (s : State) : s.pcVal + 4 = BitVec.ofInt 64 (s.pcVal.toNat + 4) :=
  add_ofInt_eq_ofInt s.pcVal 4

theorem State.getX_add_immWord (s : State) (r : XReg) (imm : BitVec 12) :
    s.getX r + immWord imm = BitVec.ofInt 64 (s.ux r + imm.toInt) := add_ofInt_eq_ofInt _ _

/-! ### The address of the following instruction -/

theorem State.pcVal_advance (s : State) : s.advance.pcVal = s.nextPc := s.pcVal_setPc _

theorem State.toNat_nextPc (s : State) : s.nextPc.toNat = (s.pcVal.toNat + 4) % s.modulus := by
  rw [← State.pcVal_advance, State.toNat_pcVal_advance, State.modulus]

theorem State.wrap_nextPc (s : State) : s.xlen.wrap s.nextPc = s.nextPc := wrap_wrap _ _

/-- Wrapping keeps the low `XPRLEN` bits. -/
theorem setWidth_wrap (xl : Xlen) (w : Word) : (xl.wrap w).setWidth xl.bits = w.setWidth xl.bits := by
  apply BitVec.eq_of_toNat_eq
  rw [BitVec.toNat_setWidth, BitVec.toNat_setWidth, toNat_wrap, Nat.mod_mod]

theorem State.setWidth_nextPc (s : State) :
    s.nextPc.setWidth s.xlen.bits = BitVec.ofInt s.xlen.bits (s.pcVal.toNat + 4) := by
  rw [State.nextPc, setWidth_wrap, State.pcVal_add_four, setWidth_ofInt (bits_le _)]

/-! ### Completion -/

section
variable {i : Instr} {s : State} {rd rs1 : XReg} {imm : BitVec 12} {a : Word} {target : Int} {taken : Bool}

/-- The pc goes to the number that the target word holds, modulo 2^XPRLEN. -/
theorem toNat_pcVal_setPc_of_eq_ofInt (ha : a = BitVec.ofInt 64 target) :
    ((s.setPc a).pcVal.toNat : Int) = target % (s.modulus : Int) := by
  rw [State.pcVal_setPc, ha]
  exact toNat_wrap_of_setWidth_eq (setWidth_ofInt (bits_le _) _)

/-- A write of the pc changes nothing else. -/
theorem jumpFrame_setPc (s : State) (a : Word) : JumpFrame s (s.setPc a) where
  x _ := rfl
  f _ := rfl
  fsr := rfl
  mem _ := rfl
  fetch := rfl
  rest := ⟨rfl, rfl, rfl, rfl, rfl⟩

/-- A write of an x register and of the pc changes nothing else. -/
theorem linkFrame_setX_setPc (s : State) (rd : XReg) (w a : Word) : LinkFrame rd s ((s.setX rd w).setPc a) where
  x := ⟨State.getX_zero _, fun _ h => s.getX_setX_of_ne w h⟩
  f _ := rfl
  fsr := rfl
  mem _ := rfl
  fetch := rfl
  rest := ⟨rfl, rfl, rfl, rfl, rfl⟩

theorem completesJump_of_setPc (hexec : exec i s = .next (s.setPc a)) (ha : a = BitVec.ofInt 64 target) :
    CompletesJump i s target :=
  ⟨_, hexec, jumpFrame_setPc s a, toNat_pcVal_setPc_of_eq_ofInt ha⟩

theorem completesLink_of_setX_setPc (hexec : exec i s = .next ((s.setX rd s.nextPc).setPc a))
    (ha : a = BitVec.ofInt 64 target) : CompletesLink i s rd target := by
  refine ⟨_, hexec, linkFrame_setX_setPc s rd s.nextPc a, toNat_pcVal_setPc_of_eq_ofInt ha, ?_⟩
  rw [State.ux, State.setPc_getX, State.getX_setX_self, State.wrap_nextPc]
  split
  · rfl
  · exact s.toNat_nextPc

/-- JALR takes its target from the state before the link is written, so `rd` may be `rs1` (R283, D28). -/
theorem completesLink_of_jalr (hexec : exec i s = jalr rd rs1 imm s) :
    CompletesLink i s rd (s.ux rs1 + imm.toInt) :=
  completesLink_of_setX_setPc hexec (s.getX_add_immWord rs1 imm)

/-- A branch is a jump by its offset where its condition holds, and a jump to the following instruction where not. -/
theorem completesJump_of_branch {p : Prop} [Decidable p] (hexec : exec i s = branch taken imm s)
    (htaken : taken = decide p) :
    CompletesJump i s (if p then s.pcVal.toNat + 2 * imm.toInt else s.pcVal.toNat + 4) := by
  by_cases hp : p
  · rw [if_pos hp]
    exact completesJump_of_setPc (hexec.trans (if_pos (by simp [htaken, hp]))) (s.pcVal_add_branchOffset imm)
  · rw [if_neg hp]
    exact completesJump_of_setPc (hexec.trans (if_neg (by simp [htaken, hp]))) s.pcVal_add_four

end

/-! ### What the branches test -/

section
variable (s : State) (rs1 rs2 : XReg)

theorem State.testX_eqTest_getX :
    testX s.xlen eqTest (s.getX rs1) (s.getX rs2) = decide (s.ux rs1 = s.ux rs2) := by
  rw [testX_eq, ← State.xBits, ← State.xBits, eqTest, ← State.toNat_xBits, ← State.toNat_xBits]
  exact decide_eq_decide.mpr BitVec.toNat_inj.symm

theorem State.testX_sltTest_getX :
    testX s.xlen sltTest (s.getX rs1) (s.getX rs2) = decide (s.sx rs1 < s.sx rs2) := by
  rw [testX_eq, ← State.xBits, ← State.xBits, sltTest, State.toInt_xBits, State.toInt_xBits]

theorem State.testX_ultTest_getX :
    testX s.xlen ultTest (s.getX rs1) (s.getX rs2) = decide (s.ux rs1 < s.ux rs2) := by
  rw [testX_eq, ← State.xBits, ← State.xBits, ultTest, State.toNat_xBits, State.toNat_xBits]

end

/-! ### The obligations -/

/-- Settles O24: a jump and a linking jump to the same word. -/
theorem jumps : Obligations.Jumps := by
  intro s off
  exact ⟨completesJump_of_setPc rfl (s.pcVal_add_jumpOffset off),
    completesLink_of_setX_setPc rfl (s.pcVal_add_jumpOffset off)⟩

/-- Settles O25: the three JALR are one operation, and RDNPC is a write of the link without the jump. -/
theorem indirectJumps : Obligations.IndirectJumps := by
  intro s rd rs1 imm
  exact ⟨completesLink_of_jalr rfl, completesLink_of_jalr rfl, completesLink_of_jalr rfl,
    completesX_of_writeX rfl s.setWidth_nextPc⟩

/-- Settles O26: three comparisons and their negations. -/
theorem branches : Obligations.Branches := by
  intro s rs1 rs2 imm
  refine ⟨completesJump_of_branch rfl ?beq, completesJump_of_branch rfl ?bne, completesJump_of_branch rfl ?blt,
    completesJump_of_branch rfl ?bge, completesJump_of_branch rfl ?bltu, completesJump_of_branch rfl ?bgeu⟩
  case beq => exact s.testX_eqTest_getX rs1 rs2
  case bne => rw [s.testX_eqTest_getX, ← decide_not]
  case blt => exact s.testX_sltTest_getX rs1 rs2
  case bge => rw [s.testX_sltTest_getX, ← decide_not, decide_eq_decide, not_lt]
  case bltu => exact s.testX_ultTest_getX rs1 rs2
  case bgeu => rw [s.testX_ultTest_getX, ← decide_not, decide_eq_decide, not_lt]

end Sys2Proof.Machine
end

section
/-! Rounding (R317, R319). A fraction is rounded on its whole part and remainder; a magnitude is a fraction of units of
a power of two; and the result of `roundTo` is read off the binade of the magnitude, that of the rounded magnitude, and
the number that a finite pattern denotes. -/
namespace Sys2Proof.Machine

/-! ### A fraction rounded to a whole number (R319) -/

section
variable {m : RMode} {neg : Bool} {q r d : Nat}

theorem natCast_div_le_half_iff (hd : 0 < d) : (r : Rat) / d ≤ 1 / 2 ↔ 2 * r ≤ d := by
  rw [div_le_div_iff₀ (by exact_mod_cast hd) two_pos, one_mul, mul_comm]
  norm_cast

theorem half_le_natCast_div_iff (hd : 0 < d) : 1 / 2 ≤ (r : Rat) / d ↔ d ≤ 2 * r := by
  rw [div_le_div_iff₀ two_pos (by exact_mod_cast hd), one_mul, mul_comm]
  norm_cast

theorem natCast_div_eq_half_iff (hd : 0 < d) : (r : Rat) / d = 1 / 2 ↔ 2 * r = d := by
  rw [le_antisymm_iff, le_antisymm_iff, natCast_div_le_half_iff hd, half_le_natCast_div_iff hd]

theorem natCast_eq_div_add_mod_div (hd : 0 < d) (n : Nat) :
    (n : Rat) / d = (n / d : Nat) + ((n % d : Nat) : Rat) / d := by
  have hd' : (d : Rat) ≠ 0 := by exact_mod_cast hd.ne'
  rw [div_eq_iff hd', add_mul, div_mul_cancel₀ _ hd']
  exact_mod_cast (Nat.div_add_mod' n d).symm

theorem roundsUp_rne : roundsUp .rne neg q r d = true ↔ d < 2 * r ∨ 2 * r = d ∧ q % 2 = 1 := by
  simp [roundsUp]

theorem roundsUp_rtz : roundsUp .rtz neg q r d = false := rfl

theorem roundsUp_rdn : roundsUp .rdn neg q r d = true ↔ neg = true ∧ r ≠ 0 := by
  simp [roundsUp]

theorem roundsUp_rup : roundsUp .rup neg q r d = true ↔ neg = false ∧ r ≠ 0 := by
  simp [roundsUp]

theorem roundsUp_rmm : roundsUp .rmm neg q r d = true ↔ d ≤ 2 * r := by
  simp [roundsUp]

/-- No mode rounds up without a remainder. -/
theorem ne_zero_of_roundsUp (hd : 0 < d) (h : roundsUp m neg q r d = true) : r ≠ 0 := by
  cases m with
  | rne => rw [roundsUp_rne] at h; omega
  | rtz => simp [roundsUp_rtz] at h
  | rdn => exact (roundsUp_rdn.mp h).2
  | rup => exact (roundsUp_rup.mp h).2
  | rmm => rw [roundsUp_rmm] at h; omega

/-- Left at its whole part, a fraction is off by its remainder. -/
theorem isRounding_of_not_roundsUp (hr : r < d) (h : ¬ roundsUp m neg q r d = true) :
    IsRounding m neg (q + (r : Rat) / d) q := by
  have hd : 0 < d := by omega
  have hnonneg : 0 ≤ (r : Rat) / d := by positivity
  have hlt : (r : Rat) / d < 1 := (div_lt_one (by exact_mod_cast hd)).mpr (by exact_mod_cast hr)
  have hdist : |(q : Rat) - (q + r / d)| = r / d := by rw [sub_add_cancel_left, abs_neg, abs_of_nonneg hnonneg]
  have hbelow : (q : Rat) ≤ q + r / d := le_add_of_nonneg_right hnonneg
  have hwhole : r = 0 → (q : Rat) + r / d ≤ q := by rintro rfl; simp
  unfold IsRounding
  rw [hdist]
  refine ⟨hlt, ?_⟩
  cases m with
  | rne =>
    rw [roundsUp_rne] at h
    rw [natCast_div_le_half_iff hd, natCast_div_eq_half_iff hd]
    omega
  | rtz => exact hbelow
  | rdn =>
    rw [roundsUp_rdn] at h
    dsimp only
    split
    case isTrue hneg => exact hwhole (by tauto)
    case isFalse => exact hbelow
  | rup =>
    rw [roundsUp_rup] at h
    dsimp only
    split
    case isTrue => exact hbelow
    case isFalse hneg => exact hwhole (by simpa [hneg] using h)
  | rmm =>
    rw [roundsUp_rmm] at h
    rw [natCast_div_le_half_iff hd, natCast_div_eq_half_iff hd]
    exact ⟨by omega, fun htie => absurd htie (by omega)⟩

/-- Taken up to the next whole number, a fraction is off by what its remainder lacks of one. -/
theorem isRounding_succ_of_roundsUp (hr : r < d) (h : roundsUp m neg q r d = true) :
    IsRounding m neg (q + (r : Rat) / d) (q + 1 : Nat) := by
  have hd : 0 < d := by omega
  have hlt : (r : Rat) / d < 1 := (div_lt_one (by exact_mod_cast hd)).mpr (by exact_mod_cast hr)
  have hpos : 0 < (r : Rat) / d :=
    div_pos (by exact_mod_cast Nat.pos_of_ne_zero (ne_zero_of_roundsUp hd h)) (by exact_mod_cast hd)
  have hdist : |((q + 1 : Nat) : Rat) - (q + r / d)| = 1 - r / d := by
    rw [Nat.cast_succ, add_sub_add_left_eq_sub, abs_of_pos (sub_pos.mpr hlt)]
  have habove : (q : Rat) + r / d ≤ (q + 1 : Nat) := by rw [Nat.cast_succ]; gcongr
  have hle_half : 1 - (r : Rat) / d ≤ 1 / 2 ↔ d ≤ 2 * r := by
    rw [← half_le_natCast_div_iff hd, sub_le_comm]
    norm_num
  have heq_half : 1 - (r : Rat) / d = 1 / 2 ↔ 2 * r = d := by
    rw [← natCast_div_eq_half_iff hd, sub_eq_iff_eq_add, ← sub_eq_iff_eq_add', eq_comm]
    norm_num
  unfold IsRounding
  rw [hdist]
  refine ⟨sub_lt_self 1 hpos, ?_⟩
  cases m with
  | rne =>
    rw [roundsUp_rne] at h
    rw [hle_half, heq_half]
    omega
  | rtz => simp [roundsUp_rtz] at h
  | rdn => exact (if_pos (roundsUp_rdn.mp h).1).mpr habove
  | rup =>
    obtain ⟨rfl, -⟩ := roundsUp_rup.mp h
    exact habove
  | rmm => exact ⟨hle_half.mpr (roundsUp_rmm.mp h), fun _ => habove⟩

theorem isRounding_roundUnits (m : RMode) (neg : Bool) (n : Nat) (hd : 0 < d) :
    IsRounding m neg ((n : Rat) / d) (roundUnits m neg n d).1 := by
  rw [natCast_eq_div_add_mod_div hd n, roundUnits]
  split
  case isTrue h => exact isRounding_succ_of_roundsUp (Nat.mod_lt n hd) h
  case isFalse h => exact isRounding_of_not_roundsUp (Nat.mod_lt n hd) h

/-- A whole number has no neighbour but itself. -/
theorem IsRounding.eq_of_natCast {k n : Nat} (h : IsRounding m neg n k) : k = n := by
  have hdist : |(k : Rat) - n| < 1 := h.1
  have : |(k : Int) - n| < 1 := by exact_mod_cast hdist
  rw [Int.abs_lt_one_iff] at this
  omega

theorem roundUnits_inexact_eq_false_iff (m : RMode) (neg : Bool) (n : Nat) (hd : 0 < d) :
    (roundUnits m neg n d).2 = false ↔ ((roundUnits m neg n d).1 : Rat) = (n : Rat) / d := by
  have hd' : (d : Rat) ≠ 0 := by exact_mod_cast hd.ne'
  have hsnd : (roundUnits m neg n d).2 = false ↔ d ∣ n := by simp [roundUnits, Nat.dvd_iff_mod_eq_zero]
  rw [hsnd]
  constructor
  · rintro ⟨c, rfl⟩
    have hwhole : ((d * c : Nat) : Rat) / d = c := by rw [Nat.cast_mul, mul_div_cancel_left₀ _ hd']
    have hround := isRounding_roundUnits m neg (d * c) hd
    rw [hwhole] at hround ⊢
    rw [hround.eq_of_natCast]
  · intro heq
    rw [eq_div_iff hd'] at heq
    exact ⟨_, by rw [mul_comm]; exact_mod_cast heq.symm⟩

/-- A whole number at or below a fraction is at or below its rounding. -/
theorem IsRounding.le_of_natCast_le {x : Rat} {a k : Nat} (h : IsRounding m neg x k) (ha : (a : Rat) ≤ x) :
    a ≤ k := by
  have hdist := (abs_lt.mp h.1).1
  have : (a : Rat) < (k + 1 : Nat) := by push_cast; linarith
  exact Nat.lt_succ_iff.mp (by exact_mod_cast this)

/-- A whole number at or above a fraction is at or above its rounding. -/
theorem IsRounding.le_of_le_natCast {x : Rat} {a k : Nat} (h : IsRounding m neg x k) (ha : x ≤ a) : k ≤ a := by
  have hdist := (abs_lt.mp h.1).2
  have : (k : Rat) < (a + 1 : Nat) := by push_cast; linarith
  exact Nat.lt_succ_iff.mp (by exact_mod_cast this)

end

/-- Settles O56: the two answers of the remainder, to round up or not, taken mode by mode. -/
theorem roundingModes : Obligations.RoundingModes := by
  intro m neg n d hd
  exact ⟨isRounding_roundUnits m neg n hd, roundUnits_inexact_eq_false_iff m neg n hd⟩

/-! ### A magnitude in units of a power of two -/

section
variable {den : Nat}

theorem inUnits_snd_pos (num : Nat) (hden : 0 < den) (e g : Int) : 0 < (inUnits num den e g).2 := by
  unfold inUnits
  split <;> positivity

theorem natCast_inUnits_div (num : Nat) (hden : 0 < den) (e g : Int) :
    ((inUnits num den e g).1 : Rat) / (inUnits num den e g).2 = (num : Rat) / den * 2 ^ e / 2 ^ g := by
  have hden' : (den : Rat) ≠ 0 := by exact_mod_cast hden.ne'
  rw [mul_div_assoc, ← zpow_sub₀ two_ne_zero]
  unfold inUnits
  split
  case isTrue h =>
    obtain ⟨j, hj⟩ := Int.eq_ofNat_of_zero_le (sub_nonneg.mpr h)
    simp only [hj, Int.toNat_natCast, zpow_natCast]
    push_cast
    ring
  case isFalse h =>
    obtain ⟨j, hj⟩ := Int.eq_ofNat_of_zero_le (sub_nonneg.mpr (not_le.mp h).le)
    rw [← neg_sub g e, hj, zpow_neg, zpow_natCast]
    simp only [Int.toNat_natCast]
    push_cast
    rw [div_mul_eq_div_div, div_eq_mul_inv (_ / _)]

/-- The magnitude `num / den × 2^e` rounded to a whole number of units of `2^g`; true when it was not one. -/
def roundAt (m : RMode) (neg : Bool) (num den : Nat) (e g : Int) : Nat × Bool :=
  roundUnits m neg (inUnits num den e g).1 (inUnits num den e g).2

theorem isRounding_roundAt (m : RMode) (neg : Bool) (num : Nat) (hden : 0 < den) (e g : Int) :
    IsRounding m neg ((num : Rat) / den * 2 ^ e / 2 ^ g) (roundAt m neg num den e g).1 := by
  rw [← natCast_inUnits_div num hden]
  exact isRounding_roundUnits m neg _ (inUnits_snd_pos num hden e g)

theorem roundAt_inexact (m : RMode) (neg : Bool) (num : Nat) (hden : 0 < den) (e g : Int) :
    (roundAt m neg num den e g).2 =
      decide ((roundAt m neg num den e g).1 * (2 : Rat) ^ g ≠ (num : Rat) / den * 2 ^ e) := by
  have hiff := roundUnits_inexact_eq_false_iff m neg (inUnits num den e g).1 (inUnits_snd_pos num hden e g)
  rw [natCast_inUnits_div num hden, eq_div_iff (by positivity)] at hiff
  rw [Bool.eq_iff_iff, decide_eq_true_iff, ne_eq, roundAt, ← hiff, Bool.not_eq_false]

end

/-! ### Binades -/

/-- `2^E` is the power of two at or below `r`. -/
def InBinade (E : Int) (r : Rat) : Prop := (2 : Rat) ^ E ≤ r ∧ r < (2 : Rat) ^ (E + 1)

/-- The powers of two at or below `r` are those up to `2^E`. -/
theorem InBinade.zpow_le_iff {E : Int} {r : Rat} (h : InBinade E r) (j : Int) : (2 : Rat) ^ j ≤ r ↔ j ≤ E := by
  obtain ⟨hlo, hhi⟩ := h
  constructor
  · intro hj
    have := (zpow_lt_zpow_iff_right₀ (one_lt_two (α := Rat))).mp (hj.trans_lt hhi)
    omega
  · intro hj
    exact (zpow_le_zpow_right₀ one_le_two hj).trans hlo

theorem InBinade.unique {E E' : Int} {r : Rat} (h : InBinade E r) (h' : InBinade E' r) : E = E' :=
  le_antisymm ((h'.zpow_le_iff E).mp h.1) ((h.zpow_le_iff E').mp h'.1)

/-- Scaling by a power of two shifts the binade. -/
theorem inBinade_mul_zpow_iff {E : Int} {r : Rat} (j : Int) : InBinade (E + j) (r * 2 ^ j) ↔ InBinade E r := by
  rw [InBinade, InBinade, add_right_comm, zpow_add₀ two_ne_zero, zpow_add₀ two_ne_zero (E + 1),
    mul_le_mul_iff_left₀ (by positivity), mul_lt_mul_iff_left₀ (by positivity)]

theorem inBinade_log2 {n : Nat} (hn : 0 < n) : InBinade (Nat.log2 n) n := by
  refine ⟨?_, ?_⟩
  · rw [zpow_natCast]
    exact_mod_cast Nat.log2_self_le hn.ne'
  · rw [← Nat.cast_succ, zpow_natCast]
    exact_mod_cast Nat.lt_log2_self

/-- A quotient lies in the binade of the difference of the exponents or in the one below, and `magExponent` compares
to tell which (R317). -/
theorem inBinade_magExponent {num den : Nat} (hnum : 0 < num) (hden : 0 < den) (e : Int) :
    InBinade (magExponent num den e) ((num : Rat) / den * 2 ^ e) := by
  obtain ⟨hnlo, hnhi⟩ := inBinade_log2 hnum
  obtain ⟨hdlo, hdhi⟩ := inBinade_log2 hden
  have hden' : (0 : Rat) < den := by exact_mod_cast hden
  generalize hk : (Nat.log2 num : Int) - Nat.log2 den = k
  have hunits := natCast_inUnits_div num hden 0 k
  have hpos : (0 : Rat) < (inUnits num den 0 k).2 := by exact_mod_cast inUnits_snd_pos num hden 0 k
  have hcmp : (inUnits num den 0 k).2 ≤ (inUnits num den 0 k).1 ↔ (2 : Rat) ^ k ≤ (num : Rat) / den := by
    rw [← Nat.cast_le (α := Rat), ← one_le_div hpos, hunits, one_le_div (by positivity), zpow_zero, mul_one]
  have hmag : magExponent num den e = (if (2 : Rat) ^ k ≤ (num : Rat) / den then k else k - 1) + e := by
    simp only [magExponent, hk, hcmp]
    split <;> rfl
  rw [hmag, inBinade_mul_zpow_iff]
  split
  case isTrue h =>
    refine ⟨h, ?_⟩
    rw [div_lt_iff₀ hden']
    calc (num : Rat) < 2 ^ ((Nat.log2 num : Int) + 1) := hnhi
      _ = 2 ^ (k + 1) * 2 ^ (Nat.log2 den : Int) := by rw [← zpow_add₀ two_ne_zero]; congr 1; omega
      _ ≤ 2 ^ (k + 1) * den := by gcongr
  case isFalse h =>
    refine ⟨?_, by simpa using h⟩
    rw [le_div_iff₀ hden']
    calc (2 : Rat) ^ (k - 1) * den ≤ 2 ^ (k - 1) * 2 ^ ((Nat.log2 den : Int) + 1) := by gcongr
      _ = 2 ^ (Nat.log2 num : Int) := by rw [← zpow_add₀ two_ne_zero]; congr 1; omega
      _ ≤ num := hnlo

theorem magExponent_eq {num den : Nat} {e E : Int} (hnum : 0 < num) (hden : 0 < den)
    (h : InBinade E ((num : Rat) / den * 2 ^ e)) : magExponent num den e = E :=
  (inBinade_magExponent hnum hden e).unique h

/-! ### The rounded significand -/

/-- The exponent of `k` units of `2^(E−t)`, where `k` has `p` bits or has been carried to `2^p`. -/
def carriedExponent (F : Fmt) (E : Int) (k : Nat) : Int := if k = 2 ^ precision F then E + 1 else E

theorem two_pow_fracBits_units (F : Fmt) (E : Int) :
    ((2 ^ fracBits F : Nat) : Rat) * 2 ^ (E - fracBits F) = 2 ^ E := by
  rw [Nat.cast_pow, Nat.cast_ofNat, ← zpow_natCast, ← zpow_add₀ two_ne_zero, add_sub_cancel]

theorem two_pow_precision_units (F : Fmt) (E : Int) :
    ((2 ^ precision F : Nat) : Rat) * 2 ^ (E - fracBits F) = 2 ^ (E + 1) := by
  rw [precision, pow_succ, Nat.cast_mul, mul_right_comm, two_pow_fracBits_units, zpow_add_one₀ two_ne_zero,
    Nat.cast_ofNat]

/-- `p` significant bits of a number of the binade `E` round to `p` bits or to the next power of two. -/
theorem significand_bounds {F : Fmt} {m : RMode} {neg : Bool} {E : Int} {r : Rat} {k : Nat} (hr : InBinade E r)
    (hk : IsRounding m neg (r / 2 ^ (E - fracBits F)) k) : 2 ^ fracBits F ≤ k ∧ k ≤ 2 ^ precision F := by
  have hunit : (0 : Rat) < 2 ^ (E - fracBits F) := by positivity
  obtain ⟨hlo, hhi⟩ := hr
  constructor
  · refine hk.le_of_natCast_le ?_
    rwa [le_div_iff₀ hunit, two_pow_fracBits_units]
  · refine hk.le_of_le_natCast ?_
    rw [div_le_iff₀ hunit, two_pow_precision_units]
    exact hhi.le

/-- The carried exponent is the exponent of the rounded magnitude. -/
theorem inBinade_carriedExponent {F : Fmt} {E : Int} {k : Nat} (hlo : 2 ^ fracBits F ≤ k)
    (hhi : k ≤ 2 ^ precision F) : InBinade (carriedExponent F E k) (k * 2 ^ (E - fracBits F)) := by
  unfold carriedExponent
  split
  case isTrue h =>
    rw [h, two_pow_precision_units]
    exact ⟨le_rfl, zpow_lt_zpow_right₀ one_lt_two (lt_add_one _)⟩
  case isFalse h =>
    have hlt : k < 2 ^ precision F := by omega
    rw [InBinade, ← two_pow_fracBits_units F E, ← two_pow_precision_units F E]
    constructor <;> gcongr

/-! ### Finite patterns (R310) -/

section
variable {F : Fmt} {neg : Bool} {mag : Nat}

theorem toNat_patternOf (h : mag < 2 ^ signPos F) :
    (patternOf F neg mag).toNat = neg.toNat * 2 ^ signPos F + mag := by
  cases F <;> cases neg <;> simp [patternOf, signPos, expBits, fracBits] at h ⊢ <;> omega

theorem fitsFormat_patternOf (h : mag < 2 ^ signPos F) : fitsFormat F (patternOf F neg mag) := by
  have := neg.toNat_le
  rw [fitsFormat, toNat_patternOf h, pow_succ]
  nlinarith

theorem signOf_patternOf (h : mag < 2 ^ signPos F) : signOf F (patternOf F neg mag) = neg := by
  rw [signOf, BitVec.getLsbD, toNat_patternOf h, mul_comm, Nat.testBit_two_pow_mul_add _ h]
  cases neg <;> simp

theorem expOf_patternOf (h : mag < 2 ^ signPos F) : expOf F (patternOf F neg mag) = mag / 2 ^ fracBits F := by
  have hexp : mag / 2 ^ fracBits F < 2 ^ expBits F := by
    rwa [Nat.div_lt_iff_lt_mul (by positivity), ← pow_add]
  rw [expOf, toNat_patternOf h, signPos, pow_add, ← mul_assoc, add_comm, Nat.add_mul_div_right _ _ (by positivity),
    Nat.add_mul_mod_self_right, Nat.mod_eq_of_lt hexp]

theorem fracOf_patternOf (h : mag < 2 ^ signPos F) : fracOf F (patternOf F neg mag) = mag % 2 ^ fracBits F := by
  rw [fracOf, toNat_patternOf h, signPos, pow_add, ← mul_assoc, Nat.mul_add_mod']

theorem infMag_lt (F : Fmt) : infMag F < 2 ^ signPos F := by
  cases F <;> decide

theorem ratOf_eq_signedRat (neg : Bool) (k : Nat) (e : Int) : ratOf neg k e = signedRat neg (k * 2 ^ e) := by
  cases neg <;> simp [ratOf, signedMag, signedRat]

/-- Below the exponent field 1 a pattern counts units of `2^(emin−t)`. -/
theorem denotes_patternOf_subnormal (h : mag < 2 ^ fracBits F) :
    denotes F (patternOf F neg mag) (signedRat neg (mag * 2 ^ (expMin F - fracBits F))) := by
  have hsign : mag < 2 ^ signPos F := h.trans_le (Nat.pow_le_pow_right two_pos (Nat.le_add_left _ _))
  have hne : 0 ≠ 2 ^ expBits F - 1 := by cases F <;> decide
  refine ⟨fitsFormat_patternOf hsign, neg, mag, _, ?_, ratOf_eq_signedRat _ _ _⟩
  rw [unpack, expOf_patternOf hsign, fracOf_patternOf hsign, signOf_patternOf hsign, Nat.div_eq_of_lt h,
    Nat.mod_eq_of_lt h, if_neg hne, if_pos rfl]

/-- With the exponent field `i + 1` a pattern counts units of `2^(emin+i−t)` from `2^t` on. -/
theorem denotes_patternOf_normal {i f : Nat} (hf : f < 2 ^ fracBits F) (hi : i + 1 < 2 ^ expBits F - 1) :
    denotes F (patternOf F neg ((i + 1) * 2 ^ fracBits F + f))
      (signedRat neg ((2 ^ fracBits F + f : Nat) * 2 ^ (expMin F + i - fracBits F))) := by
  have hsign : (i + 1) * 2 ^ fracBits F + f < 2 ^ signPos F := by
    rw [signPos, pow_add]
    calc (i + 1) * 2 ^ fracBits F + f < (i + 2) * 2 ^ fracBits F := by linarith
      _ ≤ 2 ^ expBits F * 2 ^ fracBits F := by gcongr; omega
  have hexp : ((i + 1) * 2 ^ fracBits F + f) / 2 ^ fracBits F = i + 1 := by
    rw [add_comm, Nat.add_mul_div_right _ _ (by positivity), Nat.div_eq_of_lt hf, zero_add]
  refine ⟨fitsFormat_patternOf hsign, neg, 2 ^ fracBits F + f, expMin F + i - fracBits F, ?_,
    ratOf_eq_signedRat _ _ _⟩
  rw [unpack, expOf_patternOf hsign, fracOf_patternOf hsign, signOf_patternOf hsign, hexp, Nat.mul_add_mod',
    Nat.mod_eq_of_lt hf, if_neg hi.ne, if_neg (Nat.succ_ne_zero i), expMin]
  congr 1
  push_cast
  ring

/-- `k` units of `2^(emin+i−t)` are the pattern `i × 2^t + k`: where `k` is carried to `2^(t+1)` the carry goes into
the exponent field, and where `i` is zero the field counts from the subnormal numbers on. -/
theorem denotes_patternOf {i k : Nat} (hk : i = 0 ∨ 2 ^ fracBits F ≤ k) (hhi : k ≤ 2 ^ precision F)
    (hfin : i * 2 ^ fracBits F + k < infMag F) :
    denotes F (patternOf F neg (i * 2 ^ fracBits F + k)) (signedRat neg (k * 2 ^ (expMin F + i - fracBits F))) := by
  have hfield : ∀ j f, i * 2 ^ fracBits F + k = j * 2 ^ fracBits F + f → j < 2 ^ expBits F - 1 := by
    intro j f hj
    refine Nat.lt_of_mul_lt_mul_right (a := 2 ^ fracBits F) ?_
    rw [← infMag]
    omega
  rcases lt_trichotomy k (2 ^ precision F) with hlt | rfl | hgt
  · rcases lt_or_ge k (2 ^ fracBits F) with hsub | hnormal
    · obtain rfl : i = 0 := by omega
      rw [zero_mul, zero_add, Nat.cast_zero, add_zero]
      exact denotes_patternOf_subnormal hsub
    · obtain ⟨f, rfl⟩ := Nat.exists_eq_add_of_le hnormal
      have hbits : i * 2 ^ fracBits F + (2 ^ fracBits F + f) = (i + 1) * 2 ^ fracBits F + f := by ring
      rw [precision, pow_succ] at hlt
      rw [hbits]
      exact denotes_patternOf_normal (by omega) (hfield _ _ hbits)
  · have hbits : i * 2 ^ fracBits F + 2 ^ precision F = (i + 1 + 1) * 2 ^ fracBits F + 0 := by
      rw [precision]
      ring
    have hcarry := denotes_patternOf_normal (neg := neg) (i := i + 1) (f := 0) (by positivity) (hfield _ _ hbits)
    rw [hbits, two_pow_precision_units]
    rwa [add_zero (2 ^ fracBits F), two_pow_fracBits_units, Nat.cast_succ, ← add_assoc] at hcarry
  · omega

theorem expBits_pattern_bound (F : Fmt) : ((2 ^ expBits F : Nat) : Int) = expMax F - expMin F + 3 := by
  cases F <;> decide

/-- A number of a binade `emin + i` up to `emax` is a finite pattern. -/
theorem normal_lt_infMag {i k : Nat} (h : carriedExponent F (expMin F + i) k ≤ expMax F)
    (hhi : k ≤ 2 ^ precision F) :
    i * 2 ^ fracBits F + k < infMag F := by
  have hbound := expBits_pattern_bound F
  have hpos : 0 < 2 ^ fracBits F := by positivity
  rw [infMag]
  unfold carriedExponent at h
  split at h
  case isTrue hcarry =>
    rw [hcarry, precision, pow_succ]
    calc i * 2 ^ fracBits F + 2 ^ fracBits F * 2 = (i + 2) * 2 ^ fracBits F := by ring
      _ < (2 ^ expBits F - 1) * 2 ^ fracBits F := by gcongr; omega
  case isFalse hcarry =>
    have hlt : k < 2 ^ fracBits F * 2 := by rw [← pow_succ]; exact lt_of_le_of_ne hhi hcarry
    calc i * 2 ^ fracBits F + k < (i + 2) * 2 ^ fracBits F := by linarith
      _ ≤ (2 ^ expBits F - 1) * 2 ^ fracBits F := by gcongr; omega

end

/-! ### The three results of `roundTo` (R317) -/

section
variable {F : Fmt} {m : RMode} {neg : Bool} {num den : Nat} {e E : Int}

/-- `roundTo`, with the magnitude rounded to `p` bits and on the subnormal grid, and the exponent carried. -/
theorem roundTo_eq (hE : magExponent num den e = E) :
    roundTo F m neg num den e =
      if expMax F < carriedExponent F E (roundAt m neg num den e (E - fracBits F)).1 then
        (overflowResult F m neg, flagOF ||| flagNX)
      else if expMin F ≤ E then
        (patternOf F neg ((E - expMin F).toNat * 2 ^ fracBits F + (roundAt m neg num den e (E - fracBits F)).1),
          flagIf (roundAt m neg num den e (E - fracBits F)).2 flagNX)
      else
        (patternOf F neg (roundAt m neg num den e (expMin F - fracBits F)).1,
          flagIf (roundAt m neg num den e (expMin F - fracBits F)).2 flagNX |||
            flagIf ((roundAt m neg num den e (expMin F - fracBits F)).2 &&
              (decide (carriedExponent F E (roundAt m neg num den e (E - fracBits F)).1 < expMin F) ||
                Config.tinyBeforeRounding)) flagUF) := by
  subst hE
  rfl

theorem carriedExponent_le (F : Fmt) (E : Int) (k : Nat) : carriedExponent F E k ≤ E + 1 := by
  unfold carriedExponent
  split <;> omega

theorem expMin_le_expMax (F : Fmt) : expMin F ≤ expMax F := by
  cases F <;> decide

section
variable (hnum : 0 < num) (hden : 0 < den) (hr : InBinade E ((num : Rat) / den * 2 ^ e))
include hden hr

theorem roundAt_significand_bounds : 2 ^ fracBits F ≤ (roundAt m neg num den e (E - fracBits F)).1 ∧
    (roundAt m neg num den e (E - fracBits F)).1 ≤ 2 ^ precision F :=
  significand_bounds hr (isRounding_roundAt m neg num hden e _)

theorem inBinade_roundAt_significand :
    InBinade (carriedExponent F E (roundAt m neg num den e (E - fracBits F)).1)
      ((roundAt m neg num den e (E - fracBits F)).1 * 2 ^ (E - fracBits F)) := by
  obtain ⟨hlo, hhi⟩ := roundAt_significand_bounds (F := F) (m := m) (neg := neg) hden hr
  exact inBinade_carriedExponent hlo hhi

include hnum

/-- Overflow is told by the rounded magnitude. -/
theorem roundTo_of_overflow
    (hover : (2 : Rat) ^ (expMax F + 1) ≤ (roundAt m neg num den e (E - fracBits F)).1 * 2 ^ (E - fracBits F)) :
    roundTo F m neg num den e = (overflowResult F m neg, flagOF ||| flagNX) := by
  rw [(inBinade_roundAt_significand hden hr).zpow_le_iff] at hover
  rw [roundTo_eq (magExponent_eq hnum hden hr), if_pos (Int.lt_of_add_one_le hover)]

/-- From `2^emin` on the result is the rounded magnitude; a carry into the next binade is a carry into the exponent
field. -/
theorem roundTo_of_normal
    (hfin : (roundAt m neg num den e (E - fracBits F)).1 * 2 ^ (E - fracBits F) < (2 : Rat) ^ (expMax F + 1))
    (hmin : (2 : Rat) ^ expMin F ≤ (num : Rat) / den * 2 ^ e) :
    denotes F (roundTo F m neg num den e).1
        (signedRat neg ((roundAt m neg num den e (E - fracBits F)).1 * 2 ^ (E - fracBits F))) ∧
      (roundTo F m neg num den e).2 = flagIf (roundAt m neg num den e (E - fracBits F)).2 flagNX := by
  have hover : ¬ expMax F < carriedExponent F E (roundAt m neg num den e (E - fracBits F)).1 := by
    rwa [← not_le, (inBinade_roundAt_significand hden hr).zpow_le_iff, Int.add_one_le_iff] at hfin
  obtain ⟨hlo, hhi⟩ := roundAt_significand_bounds (F := F) (m := m) (neg := neg) hden hr
  rw [hr.zpow_le_iff] at hmin
  rw [roundTo_eq (magExponent_eq hnum hden hr), if_neg hover, if_pos hmin]
  refine ⟨?_, rfl⟩
  obtain ⟨i, rfl⟩ := Int.le.dest hmin
  rw [add_sub_cancel_left, Int.toNat_natCast]
  exact denotes_patternOf (.inr hlo) hhi (normal_lt_infMag (not_lt.mp hover) hhi)

/-- Below `2^emin` the magnitude is rounded once more from its exact value, on the subnormal grid; the one at `p` bits
decides on tininess alone. -/
theorem roundTo_of_subnormal (hmin : (num : Rat) / den * 2 ^ e < (2 : Rat) ^ expMin F) :
    denotes F (roundTo F m neg num den e).1
        (signedRat neg ((roundAt m neg num den e (expMin F - fracBits F)).1 * 2 ^ (expMin F - fracBits F))) ∧
      signOf F (roundTo F m neg num den e).1 = neg ∧
      (roundTo F m neg num den e).2 =
        flagIf (roundAt m neg num den e (expMin F - fracBits F)).2 flagNX |||
          flagIf ((roundAt m neg num den e (expMin F - fracBits F)).2 &&
            (decide ((roundAt m neg num den e (E - fracBits F)).1 * 2 ^ (E - fracBits F) < (2 : Rat) ^ expMin F) ||
              Config.tinyBeforeRounding)) flagUF := by
  have hE : E < expMin F := by rwa [← not_le, hr.zpow_le_iff, not_le] at hmin
  have hover : ¬ expMax F < carriedExponent F E (roundAt m neg num den e (E - fracBits F)).1 := by
    have := carriedExponent_le F E (roundAt m neg num den e (E - fracBits F)).1
    have := expMin_le_expMax F
    omega
  have hgrid : (roundAt m neg num den e (expMin F - fracBits F)).1 ≤ 2 ^ fracBits F := by
    refine (isRounding_roundAt m neg num hden e _).le_of_le_natCast ?_
    rw [div_le_iff₀ (by positivity), two_pow_fracBits_units]
    exact hmin.le
  have hfin : (roundAt m neg num den e (expMin F - fracBits F)).1 < infMag F :=
    hgrid.trans_lt (by cases F <;> decide)
  have htiny : (roundAt m neg num den e (E - fracBits F)).1 * 2 ^ (E - fracBits F) < (2 : Rat) ^ expMin F ↔
      carriedExponent F E (roundAt m neg num den e (E - fracBits F)).1 < expMin F := by
    rw [← not_le, (inBinade_roundAt_significand hden hr).zpow_le_iff, not_le]
  rw [roundTo_eq (magExponent_eq hnum hden hr), if_neg hover, if_neg (not_le.mpr hE)]
  refine ⟨?_, signOf_patternOf (hfin.trans (infMag_lt F)), by rw [decide_eq_decide.mpr htiny]⟩
  have hdenotes := denotes_patternOf (F := F) (neg := neg) (i := 0) (.inl rfl)
    (hgrid.trans (Nat.pow_le_pow_right two_pos (Nat.le_succ _))) (by rwa [zero_mul, zero_add])
  rwa [zero_mul, zero_add, Nat.cast_zero, add_zero] at hdenotes

end

end

/-! ### What overflow delivers (R317) -/

/-- The two nearest modes and the directed mode of the side that overflows go to the infinity. -/
theorem overflowResult_eq_infinity {m : RMode} {neg : Bool} (F : Fmt)
    (hm : m = .rne ∨ m = .rmm ∨ m = (if neg then .rdn else .rup)) : overflowResult F m neg = infinityOf F neg := by
  rcases hm with rfl | rfl | rfl
  · rfl
  · rfl
  · cases neg <;> rfl

/-- Toward zero, and in the directed mode of the other side, overflow stops at the largest finite number. -/
theorem overflowResult_eq_largest {m : RMode} {neg : Bool} (F : Fmt)
    (hm : m = .rtz ∨ m = (if neg then .rup else .rdn)) : overflowResult F m neg = largestOf F neg := by
  rcases hm with rfl | rfl
  · rfl
  · cases neg <;> rfl

/-- The patterns of the infinities and of the largest finite numbers, spelled out. -/
theorem infinityOf_largestOf_patterns (neg : Bool) :
    infinityOf .s neg = (if neg then 0xFF800000 else 0x7F800000) ∧
    infinityOf .d neg = (if neg then 0xFFF0000000000000 else 0x7FF0000000000000) ∧
    largestOf .s neg = (if neg then 0xFF7FFFFF else 0x7F7FFFFF) ∧
    largestOf .d neg = (if neg then 0xFFEFFFFFFFFFFFFF else 0x7FEFFFFFFFFFFFFF) := by
  cases neg <;> decide

/-- Settles O57: `u` is the magnitude rounded at `2^(E−t)`, and the three results of `roundTo` are told apart by the
binades of the magnitude and of `u`. -/
theorem roundDelivers : Obligations.RoundDelivers := by
  constructor
  · intro F m neg num den e E hnum hden r ulp tiniest res hlo hhi
    have hr : InBinade E ((num : Rat) / den * 2 ^ e) := ⟨hlo, hhi⟩
    refine ⟨(roundAt m neg num den e (E - fracBits F)).1, isRounding_roundAt m neg num hden e _,
      roundTo_of_overflow hnum hden hr, fun hfin hmin => ?normal, fun hmin =>
      ⟨(roundAt m neg num den e (expMin F - fracBits F)).1, isRounding_roundAt m neg num hden e _, ?subnormal⟩⟩
    case normal =>
      rw [← roundAt_inexact m neg num hden]
      exact roundTo_of_normal hnum hden hr hfin hmin
    case subnormal =>
      rw [← roundAt_inexact m neg num hden]
      exact roundTo_of_subnormal hnum hden hr hmin
  · intro neg
    obtain ⟨hinfS, hinfD, hmaxS, hmaxD⟩ := infinityOf_largestOf_patterns neg
    refine ⟨fun m hm => ?_, fun m hm => ?_⟩
    · rw [overflowResult_eq_infinity _ hm, overflowResult_eq_infinity _ hm]
      exact ⟨hinfS, hinfD⟩
    · rw [overflowResult_eq_largest _ hm, overflowResult_eq_largest _ hm]
      exact ⟨hmaxS, hmaxD⟩

end Sys2Proof.Machine
end

section
/-! The calls to the environment (R441, R442). In every state and variant each is one trap that records the pc. -/
namespace Sys2Proof.Machine

/-- A trap records the pc of the state before the step. -/
theorem raise_eq_fault (E : Word → Fault) (s : State) : raise E s = .fault (E s.pcVal) := rfl

theorem exec_syscall (s : State) : exec .syscall s = raise .syscall s := rfl

theorem exec_brk (s : State) : exec .brk s = raise .breakpoint s := rfl

/-- Settles O48: each of the two calls is nothing but its trap. -/
theorem envCalls : Obligations.EnvCalls := by
  intro s
  constructor
  · rw [exec_syscall, raise_eq_fault]
  · rw [exec_brk, raise_eq_fault]

end Sys2Proof.Machine
end

section
/-! The alignment of an AMO (R171, R463). The address is checked before the access, so the trap does not depend on the
operator, on rs2 or on what memory admits; for the 64-bit forms only the variant is checked before it (R471). -/
namespace Sys2Proof.Machine

section
variable {i : Instr} {s : State} {rd rs1 rs2 : XReg} {op : (n : Nat) → BitVec n → BitVec n → BitVec n}

theorem amo_of_misaligned {n : Nat} (f : Word → Word → Word) (widen : Word → Word) (rd rs2 : XReg)
    (h : s.ux rs1 % n ≠ 0) :
    amo n f widen rd rs1 rs2 s = .fault (.amoAddressMisaligned s.pcVal (s.getX rs1)) := by
  have hraise : amo n f widen rd rs1 rs2 s = raise (fun pc => .amoAddressMisaligned pc (s.getX rs1)) s := if_pos h
  rw [hraise, raise_eq_fault]

theorem trapsMisaligned_of_amoW (h : s.ux rs1 % 4 ≠ 0) (hexec : exec i s = amoW op rd rs1 rs2 s) :
    exec i s = .fault (.amoAddressMisaligned s.pcVal (s.getX rs1)) :=
  hexec.trans (amo_of_misaligned _ _ rd rs2 h)

theorem trapsMisaligned_of_amoD (hx : s.xlen = .rv64) (h : s.ux rs1 % 8 ≠ 0)
    (hexec : exec i s = rv64Only i s (amoD op rd rs1 rs2 s)) :
    exec i s = .fault (.amoAddressMisaligned s.pcVal (s.getX rs1)) :=
  (hexec.trans (rv64Only_of_rv64 _ hx)).trans (amo_of_misaligned _ _ rd rs2 h)

end

/-- Settles O34: each 32-bit form is `amoW` of its operator, and each 64-bit form on RV64 is `amoD` of it. -/
theorem amoMisaligned : Obligations.AmoMisaligned := by
  intro s rd rs1 rs2 trap
  constructor
  · intro h
    exact ⟨trapsMisaligned_of_amoW h rfl, trapsMisaligned_of_amoW h rfl, trapsMisaligned_of_amoW h rfl,
      trapsMisaligned_of_amoW h rfl, trapsMisaligned_of_amoW h rfl, trapsMisaligned_of_amoW h rfl,
      trapsMisaligned_of_amoW h rfl, trapsMisaligned_of_amoW h rfl⟩
  · intro hx h
    exact ⟨trapsMisaligned_of_amoD hx h rfl, trapsMisaligned_of_amoD hx h rfl, trapsMisaligned_of_amoD hx h rfl,
      trapsMisaligned_of_amoD hx h rfl, trapsMisaligned_of_amoD hx h rfl, trapsMisaligned_of_amoD hx h rfl,
      trapsMisaligned_of_amoD hx h rfl, trapsMisaligned_of_amoD hx h rfl⟩

end Sys2Proof.Machine
end

section
/-! What every step keeps. The ten effects keep the invariant, the parameters and the counters; retirement moves the
counters on (R14, R448). What holds of some instructions only is told by the shape of the instruction: `Answers` says
of an outcome that its next state, if there is one, has a property and that it is no refusal, and each shape answers
with a state confined to what its class may change. -/
namespace Sys2Proof.Machine

/-! ### The invariant -/

theorem Inv.reset : Inv State.reset where
  memWf := ⟨List.Pairwise.nil, fun _ h => absurd h List.not_mem_nil⟩
  memRange _ h := absurd h List.not_mem_nil
  xZero := by simp [State.reset]
  xRange r h := by simp [State.reset, State.modulus]
  pcRange := by simp [State.reset, State.modulus]
  fsrUpper := by simp [State.reset]
  staleRange _ h := absurd h List.not_mem_nil

section
variable {s : State}

theorem Inv.setX (h : Inv s) (rd : XReg) (v : Word) : Inv (s.setX rd v) where
  memWf := h.memWf
  memRange := h.memRange
  xZero := by
    by_cases hrd : rd = 0#5
    · simpa [State.setX, hrd] using h.xZero
    · have hne : rd.toNat ≠ 0 := fun e => hrd (BitVec.eq_of_toNat_eq e)
      simpa [State.setX, hrd, Vector.getElem_set_ne _ _ hne] using h.xZero
  xRange r hr := by
    by_cases hrd : rd = 0#5
    · simpa [State.setX, hrd] using h.xRange r hr
    · simp only [State.setX, hrd, if_false, Vector.getElem_set]
      split
      · exact wrap_lt _ _
      · exact h.xRange r hr
  pcRange := h.pcRange
  fsrUpper := h.fsrUpper
  staleRange := h.staleRange

theorem Inv.setF (h : Inv s) (F : Fmt) (rd : FReg) (b : FBits) : Inv (s.setF F rd b) :=
  ⟨h.memWf, h.memRange, h.xZero, h.xRange, h.pcRange, h.fsrUpper, h.staleRange⟩

theorem Inv.setPc (h : Inv s) (a : Word) : Inv (s.setPc a) :=
  ⟨h.memWf, h.memRange, h.xZero, h.xRange, wrap_lt _ _, h.fsrUpper, h.staleRange⟩

theorem Inv.advance (h : Inv s) : Inv s.advance := h.setPc _

theorem Inv.raiseFlags (h : Inv s) (e : FlagSet) : Inv (s.raiseFlags e) where
  memWf := h.memWf
  memRange := h.memRange
  xZero := h.xZero
  xRange := h.xRange
  pcRange := h.pcRange
  fsrUpper := by
    have he : (e.setWidth 32).toNat < 2 ^ 8 := by
      rw [BitVec.toNat_setWidth_of_le (by decide)]
      exact e.isLt.trans (by decide)
    rw [State.raiseFlags, BitVec.toNat_or]
    exact Nat.or_lt_two_pow h.fsrUpper he
  staleRange := h.staleRange

/-- Only the low byte of the written value reaches fsr (R30). -/
theorem Inv.writeFsr (h : Inv s) (v : BitVec 32) : Inv (s.writeFsr v) where
  memWf := h.memWf
  memRange := h.memRange
  xZero := h.xZero
  xRange := h.xRange
  pcRange := h.pcRange
  fsrUpper := by
    rw [State.writeFsr, BitVec.toNat_setWidth_of_le (by decide)]
    exact (v.setWidth 8).isLt
  staleRange := h.staleRange

theorem Inv.store (h : Inv s) (a : Word) (n : Nat) (v : Word) : Inv (s.store a n v) where
  memWf := State.wf_store h.memWf a n v
  memRange c hc := by
    rcases Memory.mem_writeAll hc with hc | hc
    · rw [State.storeCells, List.map_fst_zip (by rw [length_bytesOfValue, State.addrs, length_accessAddrs])] at hc
      exact accessAddrs_lt hc
    · exact h.memRange c hc
  xZero := h.xZero
  xRange := h.xRange
  pcRange := h.pcRange
  fsrUpper := h.fsrUpper
  staleRange o ho := by
    rcases List.mem_append.mp ho with ho | ho
    · exact h.staleRange o ho
    · exact storeHistory_addr (fun _ => accessAddrs_lt) ho

theorem Inv.fenceI (h : Inv s) : Inv s.fenceI :=
  ⟨h.memWf, h.memRange, h.xZero, h.xRange, h.pcRange, h.fsrUpper, fun _ ho => absurd ho List.not_mem_nil⟩

theorem Inv.retire {t : State} (h : Inv t) (i : Instr) : Inv (State.retire i s t) :=
  ⟨h.memWf, h.memRange, h.xZero, h.xRange, h.pcRange, h.fsrUpper, h.staleRange⟩

theorem Effect.inv {t : State} (e : Effect s t) (h : Inv s) : Inv t := by
  cases e with
  | writeX rd v => exact (h.setX rd v).advance
  | writeXFlags rd v e => exact ((h.setX rd v).raiseFlags e).advance
  | writeF F rd b => exact (h.setF F rd b).advance
  | writeFFlags F rd b e => exact ((h.setF F rd b).raiseFlags e).advance
  | store a n v => exact (h.store a n v).advance
  | amo a n v rd w => exact ((h.store a n v).setX rd w).advance
  | jump a => exact h.setPc a
  | link rd v a => exact (h.setX rd v).setPc a
  | swapFsr v rd w => exact ((h.writeFsr v).setX rd w).advance
  | fenceI => exact h.fenceI.advance

end

/-- Settles O50: an instruction changes the state by effects that keep the invariant, and retirement touches nothing
that the invariant speaks of. -/
theorem stepKeepsInv : Obligations.StepKeepsInv := by
  intro s t hinv hstep
  obtain ⟨-, -, i, u, -, hexec, rfl⟩ := step_next.mp hstep
  exact ((exec_effect hexec).inv hinv).retire i

/-- Settles O51: nothing is in memory, nothing is recorded, and every register is zero. -/
theorem resetInv : Obligations.ResetInv := Inv.reset

/-! ### Outcomes -/

/-- The outcome is a next state with a property, or a fault; it is no refusal. -/
def Answers (P : State → Prop) : Out → Prop
  | .next t => P t
  | .fault _ => True
  | .refused _ => False

section
variable {P : State → Prop} {s t : State} {i : Instr} {k : Out}

theorem Answers.of_next {o : Out} (h : Answers P o) (ho : o = .next t) : P t := by
  subst ho
  exact h

theorem Answers.ne_refused {o : Out} (h : Answers P o) (r : Refusal) : o ≠ .refused r := by
  rintro rfl
  exact h

theorem answers_raise (E : Word → Fault) : Answers P (raise E s) := trivial

theorem answers_raiseIllegal : Answers P (raiseIllegal i s) := trivial

theorem answers_rv64Only (h : Answers P k) : Answers P (rv64Only i s k) := by
  unfold rv64Only
  split
  · exact answers_raiseIllegal
  · exact h

theorem answers_shamtLegal {sh : BitVec 6} (h : Answers P k) : Answers P (shamtLegal i sh s k) := by
  unfold shamtLegal
  split
  · split
    · exact answers_raiseIllegal
    · exact h
  · exact h

theorem answers_withMode {rm : RmField} {k : RMode → Out} (h : ∀ m, Answers P (k m)) :
    Answers P (withMode i rm s k) := by
  unfold withMode
  split
  · exact h _
  · exact answers_raiseIllegal

theorem answers_withAccess {kind : AccessKind} {a : Word} {n : Nat} (h : Answers P k) :
    Answers P (withAccess kind a n s k) := by
  unfold withAccess
  split
  · exact h
  · exact answers_raise _

end

/-! ### What each class of instructions may change -/

/-- MTFSR, which alone replaces fsr (R400). -/
def writesFsr : Instr → Bool
  | .mtfsr _ _ => true
  | _ => false

/-- A change that writes memory, leaves the sequence of instructions or replaces fsr only where its class does. -/
structure Confined (writesMem transfers replacesFsr : Bool) (s t : State) : Prop where
  mem : writesMem = false → t.mem = s.mem
  pc : transfers = false → InSequence s t
  fsr : replacesFsr = false → t.fsrFlags &&& s.fsrFlags = s.fsrFlags ∧ t.fsrRM = s.fsrRM

section
variable {wm tc wf : Bool} {s : State} {i : Instr}

theorem InSequence.of_advance {u : State} (hparams : u.params = s.params) (hpc : u.pc = s.pc) :
    InSequence s u.advance := by
  have hval : u.pcVal = s.pcVal := by rw [State.pcVal, State.pcVal, State.xlen, State.xlen, hparams, hpc]
  rw [InSequence, State.toNat_pcVal_advance, hval, State.modulus, State.xlen, State.xlen, hparams]

theorem confined_advance {u : State} (hparams : u.params = s.params) (hpc : u.pc = s.pc)
    (hmem : wm = false → u.mem = s.mem)
    (hfsr : wf = false → u.fsrFlags &&& s.fsrFlags = s.fsrFlags ∧ u.fsrRM = s.fsrRM) :
    Confined wm tc wf s u.advance :=
  ⟨hmem, fun _ => .of_advance hparams hpc, hfsr⟩

theorem fsr_kept (s : State) : s.fsrFlags &&& s.fsrFlags = s.fsrFlags ∧ s.fsrRM = s.fsrRM :=
  ⟨BitVec.and_self, rfl⟩

theorem fsr_raiseFlags_sticky (s : State) (e : FlagSet) :
    (s.raiseFlags e).fsrFlags &&& s.fsrFlags = s.fsrFlags ∧ (s.raiseFlags e).fsrRM = s.fsrRM := by
  refine ⟨?_, State.fsrRM_raiseFlags s e⟩
  rw [State.fsrFlags_raiseFlags]
  apply BitVec.eq_of_getLsbD_eq
  intro j _
  simp only [BitVec.getLsbD_and, BitVec.getLsbD_or]
  cases s.fsrFlags.getLsbD j <;> simp

theorem confined_writeX (rd : XReg) (v : Word) : Answers (Confined wm tc wf s) (writeX rd v s) :=
  confined_advance rfl rfl (fun _ => rfl) fun _ => fsr_kept s

theorem confined_loadX (n : Nat) (w : Word → Word) (rd rs1 : XReg) (imm : BitVec 12) :
    Answers (Confined wm tc wf s) (loadX n w rd rs1 imm s) := answers_withAccess (confined_writeX _ _)

theorem confined_setF_advance (F : Fmt) (rd : FReg) (b : FBits) :
    Answers (Confined wm tc wf s) (.next (s.setF F rd b).advance) :=
  confined_advance rfl rfl (fun _ => rfl) fun _ => fsr_kept s

theorem confined_loadF (F : Fmt) (n : Nat) (rd : FReg) (rs1 : XReg) (imm : BitVec 12) :
    Answers (Confined wm tc wf s) (loadF F n rd rs1 imm s) := answers_withAccess (confined_setF_advance ..)

theorem confined_storeAt (n : Nat) (v : Word) (rs1 : XReg) (imm : BitVec 12) :
    Answers (Confined true tc wf s) (storeAt n v rs1 imm s) :=
  answers_withAccess (confined_advance rfl rfl (fun h => absurd h (by decide)) fun _ => fsr_kept s)

theorem confined_amo (n : Nat) (op : Word → Word → Word) (w : Word → Word) (rd rs1 rs2 : XReg) :
    Answers (Confined true tc wf s) (amo n op w rd rs1 rs2 s) := by
  unfold amo
  dsimp only
  split
  · exact answers_raise _
  · exact answers_withAccess (answers_withAccess
      (confined_advance rfl rfl (fun h => absurd h (by decide)) fun _ => fsr_kept s))

theorem confined_amoW (op : (n : Nat) → BitVec n → BitVec n → BitVec n) (rd rs1 rs2 : XReg) :
    Answers (Confined true tc wf s) (amoW op rd rs1 rs2 s) := by
  unfold amoW
  exact confined_amo ..

theorem confined_amoD (op : (n : Nat) → BitVec n → BitVec n → BitVec n) (rd rs1 rs2 : XReg) :
    Answers (Confined true tc wf s) (amoD op rd rs1 rs2 s) := by
  unfold amoD
  exact confined_amo ..

theorem confined_setPc (a : Word) : Answers (Confined wm true wf s) (.next (s.setPc a)) :=
  ⟨fun _ => rfl, fun h => absurd h (by decide), fun _ => fsr_kept s⟩

theorem confined_branch (taken : Bool) (imm : BitVec 12) :
    Answers (Confined wm true wf s) (branch taken imm s) := by
  unfold branch
  split
  · exact confined_setPc _
  · exact confined_setPc _

theorem confined_link (rd : XReg) (v a : Word) : Answers (Confined wm true wf s) (.next ((s.setX rd v).setPc a)) :=
  ⟨fun _ => rfl, fun h => absurd h (by decide), fun _ => fsr_kept s⟩

theorem confined_writeF (F : Fmt) (rd : FReg) (r : FBits × FlagSet) :
    Answers (Confined wm tc wf s) (writeF F rd r s) :=
  confined_advance rfl rfl (fun _ => rfl) fun _ => fsr_raiseFlags_sticky (s.setF F rd r.1) r.2

theorem confined_writeXFlags (rd : XReg) (v : Word) (e : FlagSet) :
    Answers (Confined wm tc wf s) (writeXFlags rd v e s) :=
  confined_advance rfl rfl (fun _ => rfl) fun _ => fsr_raiseFlags_sticky (s.setX rd v) e

theorem confined_fpRounded (rm : RmField) (F : Fmt) (rd : FReg) (r : RMode → FBits × FlagSet) :
    Answers (Confined wm tc wf s) (withMode i rm s fun m => writeF F rd (r m) s) :=
  answers_withMode fun _ => confined_writeF ..

theorem confined_fpToInt (F : Fmt) (I : IntFmt) (rd : XReg) (rs1 : FReg) (rm : RmField) :
    Answers (Confined wm tc wf s) (fpToInt i F I rd rs1 rm s) :=
  answers_withMode fun _ => confined_writeXFlags ..

theorem confined_swapFsr (v : BitVec 32) (rd : XReg) (w : Word) :
    Answers (Confined wm tc true s) (.next ((s.writeFsr v).setX rd w).advance) :=
  confined_advance rfl rfl (fun _ => rfl) fun h => absurd h (by decide)

end

/-- The cases follow the shapes of the instructions. -/
theorem exec_confined (i : Instr) (s : State) :
    Answers (Confined (writesMemory i) (transfersControl i) (writesFsr i) s) (exec i s) := by
  cases i with
  | lb | lh | lw | lbu | lhu => exact confined_loadX ..
  | ld | lwu => exact answers_rv64Only (confined_loadX ..)
  | flw | fld => exact confined_loadF ..
  | sb | sh | sw | fsw | fsd => exact confined_storeAt ..
  | sd => exact answers_rv64Only (confined_storeAt ..)
  | amoaddW | amoswapW | amoandW | amoorW | amominW | amomaxW | amominuW | amomaxuW => exact confined_amoW ..
  | amoaddD | amoswapD | amoandD | amoorD | amominD | amomaxD | amominuD | amomaxuD =>
    exact answers_rv64Only (confined_amoD ..)
  | addi | slti | sltiu | andi | ori | xori | lui | add | sub | slt | sltu | and | or | xor | sll | srl | sra
  | mul | mulh | mulhu | mulhsu | div | divu | rem | remu | rdnpc | mftxS | mffsr | rdcycle | rdtime | rdinstret =>
    exact confined_writeX ..
  | slli | srli | srai => exact answers_shamtLegal (confined_writeX ..)
  | addiw | slliw | srliw | sraiw | addw | subw | sllw | srlw | sraw | mulw | divw | divuw | remw | remuw | mftxD =>
    exact answers_rv64Only (confined_writeX ..)
  | j => exact confined_setPc _
  | jal | jalrC | jalrR | jalrJ => exact confined_link ..
  | beq | bne | blt | bge | bltu | bgeu => exact confined_branch ..
  | faddS | fsubS | fmulS | fdivS | fsqrtS | faddD | fsubD | fmulD | fdivD | fsqrtD
  | fmaddS | fmsubS | fnmsubS | fnmaddS | fmaddD | fmsubD | fnmsubD | fnmaddD
  | fcvtSW | fcvtSWu | fcvtDW | fcvtDWu | fcvtSD | fcvtDS => exact confined_fpRounded ..
  | fcvtSL | fcvtSLu | fcvtDL | fcvtDLu => exact answers_rv64Only (confined_fpRounded ..)
  | fminS | fmaxS | fminD | fmaxD => exact confined_writeF ..
  | fcvtWS | fcvtWuS | fcvtWD | fcvtWuD => exact confined_fpToInt ..
  | fcvtLS | fcvtLuS | fcvtLD | fcvtLuD => exact answers_rv64Only (confined_fpToInt ..)
  | fsgnjS | fsgnjnS | fsgnjxS | fsgnjD | fsgnjnD | fsgnjxD | mxtfS => exact confined_setF_advance ..
  | mxtfD => exact answers_rv64Only (confined_setF_advance ..)
  | mtfsr => exact confined_swapFsr ..
  | feqS | fltS | fleS | feqD | fltD | fleD => exact confined_writeXFlags ..
  | fence => exact confined_advance rfl rfl (fun _ => rfl) fun _ => fsr_kept s
  | fenceI => exact confined_advance (u := s.fenceI) rfl rfl (fun _ => rfl) fun _ => fsr_kept s
  | syscall | brk => exact answers_raise _

/-- Settles O52: no class but that of MTFSR replaces fsr. -/
theorem flagsSticky : Obligations.FlagsSticky := by
  intro i s t hi hexec
  have hwf : writesFsr i = false := by
    unfold writesFsr
    split
    case h_1 => exact absurd rfl (hi _ _)
    case h_2 => rfl
  exact ((exec_confined i s).of_next hexec).fsr hwf

/-- Settles O53: no class but those of the stores and the AMOs writes memory. -/
theorem onlyStoresWrite : Obligations.OnlyStoresWrite := by
  intro i s t hi hexec
  have hmem := ((exec_confined i s).of_next hexec).mem hi
  exact ⟨hmem, fun a => by rw [State.readByte, State.readByte, hmem]⟩

/-- Settles O54: no class but those of the transfers of control leaves the sequence. -/
theorem sequentialPc : Obligations.SequentialPc := fun i s _ hi hexec =>
  ((exec_confined i s).of_next hexec).pc hi

/-! ### Steps -/

section
variable {s t : State}

theorem Effect.keepsRest (e : Effect s t) : KeepsRest s t := by
  cases e <;> exact ⟨rfl, rfl, rfl, rfl, rfl⟩

/-- A completed step moves the counters on by its retirement only. -/
theorem step_next_counts (h : step s = .next t) :
    t.params = s.params ∧ s.cycle ≤ t.cycle ∧ s.time ≤ t.time ∧ t.instret = s.instret + 1 ∧ t.draws = s.draws + 1 := by
  obtain ⟨-, -, i, u, -, hexec, rfl⟩ := step_next.mp h
  obtain ⟨hparams, hcycle, htime, hinstret, hdraws⟩ := (exec_effect hexec).keepsRest
  refine ⟨hparams, ?_, ?_, congrArg (· + 1) hinstret, congrArg (· + 1) hdraws⟩
  · exact hcycle.symm.le.trans (Nat.le_add_right _ _)
  · exact htime.symm.le.trans (Nat.le_add_right _ _)

theorem answers_retired {P : State → Prop} {i : Instr} {o : Out} (h : Answers (fun t => P (State.retire i s t)) o) :
    Answers P (retired i s o) := by
  cases o with
  | next t => exact h
  | fault f => trivial
  | refused r => exact h

theorem answers_withFetch {P : State → Prop} {k : InstWord → Out} (h : ∀ w, Answers P (k w)) :
    Answers P (withFetch s k) := by
  unfold withFetch
  dsimp only
  split
  · exact answers_raise _
  · exact answers_withAccess (h _)

theorem Answers.weaken {P : State → Prop} {o : Out} (h : Answers P o) : Answers (fun _ => True) o := by
  cases o with
  | next t => trivial
  | fault f => trivial
  | refused r => exact h

theorem step_answers (s : State) : Answers (fun _ => True) (step s) := by
  refine answers_withFetch fun w => ?_
  split
  · exact answers_retired (exec_confined _ s).weaken
  · exact answers_raise _

end

/-- Settles O55: the effects leave the counters, and no shape refuses. -/
theorem stepCounts : Obligations.StepCounts := by
  constructor
  · intro s t h
    obtain ⟨hparams, hcycle, htime, hinstret, -⟩ := step_next_counts h
    exact ⟨hinstret, hcycle, htime, hparams⟩
  · intro s r
    exact (step_answers s).ne_refused r

/-- Settles O49: a resumed state has the parameters of the state before the trap and no smaller counters. -/
theorem envResumes : Obligations.EnvResumes := by
  intro env s
  refine ⟨fun t h => by simp [stepUnder, h], fun e h hs => by simp [stepUnder, h, hs],
    fun e t h hs => by simp [stepUnder, h, hs, State.resume], fun t h => ?_⟩
  rcases stepUnder_next.mp h with h | ⟨e, u, -, -, rfl⟩
  · obtain ⟨hparams, hcycle, htime, hinstret, hdraws⟩ := step_next_counts h
    exact ⟨hparams, hcycle, htime, by omega, hdraws⟩
  · exact ⟨rfl, le_max_left _ _, le_max_left _ _, le_max_left _ _, rfl⟩

end Sys2Proof.Machine
end

section
/-! The decoder held against the opcode table (R107 to R111, R318). An instruction's word carries the fixed bits of
its row; and where a word carries the fixed bits of a row, the fields on which the decoder decides are those of an
instruction of the row, so it reads an instruction of that row. -/
namespace Sys2Proof

/-- The cases follow the masks of the formats. -/
theorem encode_and_tableMask (i : Instr) : encode i &&& i.tableMask = i.tableMatch := by
  cases i with
  | lb | lh | lw | ld | lbu | lhu | lwu | flw | fld | addi | slti | sltiu | andi | ori | xori | addiw
  | jalrC | jalrR | jalrJ | fence | fenceI => exact (mask_encI_3FF ..).trans rfl
  | sb | sh | sw | sd | fsw | fsd | beq | bne | blt | bge | bltu | bgeu => exact (mask_encB_3FF ..).trans rfl
  | amoaddW | amoswapW | amoandW | amoorW | amominW | amomaxW | amominuW | amomaxuW | amoaddD | amoswapD | amoandD
  | amoorD | amominD | amomaxD | amominuD | amomaxuD | add | sub | slt | sltu | and | or | xor | sll | srl | sra
  | addw | subw | sllw | srlw | sraw | mul | mulh | mulhu | mulhsu | mulw | div | divu | rem | remu | divw | divuw
  | remw | remuw => exact (mask_encR_1FFFF ..).trans rfl
  | slli | srli | srai => exact (mask_encShift_3F03FF ..).trans rfl
  | slliw | srliw | sraiw => exact (mask_encShiftW_3F83FF ..).trans rfl
  | lui => exact (mask_encL_7F ..).trans rfl
  | j | jal => exact (mask_encJ_7F ..).trans rfl
  | rdnpc => exact (mask_encI_7FFFFFF ..).trans rfl
  | rdcycle | rdtime | rdinstret => exact (mask_encR_7FFFFFF ..).trans rfl
  | syscall | brk => exact (mask_encR_FFFFFFFF ..).trans rfl
  | faddS | fsubS | fmulS | fdivS | faddD | fsubD | fmulD | fdivD => exact (mask_encFp_1F1FF ..).trans rfl
  | fsqrtS | fsqrtD | fcvtLS | fcvtLuS | fcvtWS | fcvtWuS | fcvtLD | fcvtLuD | fcvtWD | fcvtWuD | fcvtSL | fcvtSLu
  | fcvtSW | fcvtSWu | fcvtDL | fcvtDLu | fcvtDW | fcvtDWu | fcvtSD | fcvtDS => exact (mask_encFp_3FF1FF ..).trans rfl
  | fmaddS | fmsubS | fnmsubS | fnmaddS | fmaddD | fmsubD | fnmsubD | fnmaddD => exact (mask_encFp_1FF ..).trans rfl
  | fminS | fmaxS | fminD | fmaxD | fsgnjS | fsgnjnS | fsgnjxS | fsgnjD | fsgnjnD | fsgnjxD | feqS | fltS | fleS
  | feqD | fltD | fleD => exact (mask_encFp_1FFFF ..).trans rfl
  | mftxS | mftxD => exact (mask_encFp_7C1FFFF ..).trans rfl
  | mxtfS | mxtfD | mtfsr => exact (mask_encFp_3FFFFF ..).trans rfl
  | mffsr => exact (mask_encFp_7FFFFFF ..).trans rfl

theorem matches_of_decodeWord {w : InstWord} {i : Instr} (h : decodeWord w = .ok i) :
    w &&& i.tableMask = i.tableMatch := by
  rw [← encodeDecode w i h, encode_and_tableMask]

/-! ### Words that agree under a mask -/

section
variable {w w' mask : InstWord} (h : w &&& mask = w' &&& mask)
include h

/-- A field that the mask covers is the same in both words. -/
theorem extractLsb'_congr {j n : Nat} (hmask : mask.extractLsb' j n = BitVec.allOnes n) :
    w.extractLsb' j n = w'.extractLsb' j n := by
  have hfield : ∀ v : InstWord, v.extractLsb' j n = (v &&& mask).extractLsb' j n := by
    intro v
    apply BitVec.eq_of_getLsbD_eq
    intro k hk
    have hbit : mask.getLsbD (j + k) = true := by
      rw [← Bool.true_and (mask.getLsbD _), ← decide_eq_true hk, ← BitVec.getLsbD_extractLsb', hmask]
      simp [hk]
    simp [BitVec.getLsbD_extractLsb', hbit]
  rw [hfield w, hfield w', h]

theorem opcodeF_congr (hmask : mask.extractLsb' 0 7 = BitVec.allOnes 7 := by decide) : opcodeF w = opcodeF w' :=
  extractLsb'_congr h hmask

theorem funct3F_congr (hmask : mask.extractLsb' 7 3 = BitVec.allOnes 3 := by decide) : funct3F w = funct3F w' :=
  extractLsb'_congr h hmask

theorem funct10F_congr (hmask : mask.extractLsb' 7 10 = BitVec.allOnes 10 := by decide) : funct10F w = funct10F w' :=
  extractLsb'_congr h hmask

theorem funct5F_congr (hmask : mask.extractLsb' 12 5 = BitVec.allOnes 5 := by decide) : funct5F w = funct5F w' :=
  extractLsb'_congr h hmask

theorem fmtF_congr (hmask : mask.extractLsb' 7 2 = BitVec.allOnes 2 := by decide) : fmtF w = fmtF w' :=
  extractLsb'_congr h hmask

theorem rmF_congr (hmask : mask.extractLsb' 9 3 = BitVec.allOnes 3 := by decide) : rmF w = rmF w' :=
  extractLsb'_congr h hmask

theorem rs2F_congr (hmask : mask.extractLsb' 17 5 = BitVec.allOnes 5 := by decide) : rs2F w = rs2F w' :=
  extractLsb'_congr h hmask

theorem rs1F_congr (hmask : mask.extractLsb' 22 5 = BitVec.allOnes 5 := by decide) : rs1F w = rs1F w' :=
  extractLsb'_congr h hmask

theorem rdF_congr (hmask : mask.extractLsb' 27 5 = BitVec.allOnes 5 := by decide) : rdF w = rdF w' :=
  extractLsb'_congr h hmask

theorem iImmF_congr (hmask : mask.extractLsb' 10 12 = BitVec.allOnes 12 := by decide) : iImmF w = iImmF w' :=
  extractLsb'_congr h hmask

theorem shiftHiF_congr (hmask : mask.extractLsb' 16 6 = BitVec.allOnes 6 := by decide) : shiftHiF w = shiftHiF w' :=
  extractLsb'_congr h hmask

theorem shiftHiWF_congr (hmask : mask.extractLsb' 15 7 = BitVec.allOnes 7 := by decide) : shiftHiWF w = shiftHiWF w' :=
  extractLsb'_congr h hmask

end

/-- A word is decoded by its major opcode alone as far as the opcode map (R107, R110, R111). -/
theorem decodeWord_eq_ite (w : InstWord) : decodeWord w =
    if (opcodeF w).extractLsb' 0 2 ≠ 0b11#2 then .error .compressed
    else if (opcodeF w).extractLsb' 0 5 = 0b11111#5 then .error .longer
    else decodeMajor w := by
  rw [decodeWord, low2_opcodeF, low5_opcodeF]

/-- Two instructions are of one row of the table. -/
def SameRow (i j : Instr) : Prop := i.tableMask = j.tableMask ∧ i.tableMatch = j.tableMatch

/-- The cases follow the major opcode map (R107), and in each the mask of the rows and the fields on which their decoder
decides. -/
theorem decodeWord_of_matches {w : InstWord} {i : Instr} (h : w &&& i.tableMask = i.tableMatch) :
    ∃ k, decodeWord w = .ok k ∧ SameRow k i := by
  replace h := h.trans (encode_and_tableMask i).symm
  cases i with
  | lb | lh | lw | ld | lbu | lhu | lwu =>
    replace h : _ &&& 0x3FF#32 = _ &&& 0x3FF#32 := h
    simp [decodeWord_eq_ite, decodeMajor, decodeLoad, encode, opcodeF_congr h, funct3F_congr h]
    exact ⟨rfl, rfl⟩
  | flw | fld =>
    replace h : _ &&& 0x3FF#32 = _ &&& 0x3FF#32 := h
    simp [decodeWord_eq_ite, decodeMajor, decodeLoadFp, encode, opcodeF_congr h, funct3F_congr h]
    exact ⟨rfl, rfl⟩
  | sb | sh | sw | sd =>
    replace h : _ &&& 0x3FF#32 = _ &&& 0x3FF#32 := h
    simp [decodeWord_eq_ite, decodeMajor, decodeStore, encode, opcodeF_congr h, funct3F_congr h]
    exact ⟨rfl, rfl⟩
  | fsw | fsd =>
    replace h : _ &&& 0x3FF#32 = _ &&& 0x3FF#32 := h
    simp [decodeWord_eq_ite, decodeMajor, decodeStoreFp, encode, opcodeF_congr h, funct3F_congr h]
    exact ⟨rfl, rfl⟩
  | amoaddW | amoswapW | amoandW | amoorW | amominW | amomaxW | amominuW | amomaxuW
  | amoaddD | amoswapD | amoandD | amoorD | amominD | amomaxD | amominuD | amomaxuD =>
    replace h : _ &&& 0x1FFFF#32 = _ &&& 0x1FFFF#32 := h
    simp [decodeWord_eq_ite, decodeMajor, decodeAmo, encode, opcodeF_congr h, funct10F_congr h]
    exact ⟨rfl, rfl⟩
  | addi | slti | sltiu | andi | ori | xori =>
    replace h : _ &&& 0x3FF#32 = _ &&& 0x3FF#32 := h
    simp [decodeWord_eq_ite, decodeMajor, decodeOpImm, encode, opcodeF_congr h, funct3F_congr h]
    exact ⟨rfl, rfl⟩
  | slli =>
    replace h : _ &&& 0x3F03FF#32 = _ &&& 0x3F03FF#32 := h
    simp [decodeWord_eq_ite, decodeMajor, decodeOpImm, decodeShiftLeft, encode, opcodeF_congr h, funct3F_congr h,
      shiftHiF_congr h]
    exact ⟨rfl, rfl⟩
  | srli | srai =>
    replace h : _ &&& 0x3F03FF#32 = _ &&& 0x3F03FF#32 := h
    simp [decodeWord_eq_ite, decodeMajor, decodeOpImm, decodeShiftRight, encode, opcodeF_congr h, funct3F_congr h,
      shiftHiF_congr h]
    exact ⟨rfl, rfl⟩
  | addiw =>
    replace h : _ &&& 0x3FF#32 = _ &&& 0x3FF#32 := h
    simp [decodeWord_eq_ite, decodeMajor, decodeOpImm32, encode, opcodeF_congr h, funct3F_congr h]
    exact ⟨rfl, rfl⟩
  | slliw =>
    replace h : _ &&& 0x3F83FF#32 = _ &&& 0x3F83FF#32 := h
    simp [decodeWord_eq_ite, decodeMajor, decodeOpImm32, decodeShiftLeftW, encode, opcodeF_congr h, funct3F_congr
      h, shiftHiWF_congr h]
    exact ⟨rfl, rfl⟩
  | srliw | sraiw =>
    replace h : _ &&& 0x3F83FF#32 = _ &&& 0x3F83FF#32 := h
    simp [decodeWord_eq_ite, decodeMajor, decodeOpImm32, decodeShiftRightW, encode, opcodeF_congr h, funct3F_congr
      h, shiftHiWF_congr h]
    exact ⟨rfl, rfl⟩
  | add | sub | slt | sltu | and | or | xor | sll | srl | sra
  | mul | mulh | mulhu | mulhsu | div | divu | rem | remu =>
    replace h : _ &&& 0x1FFFF#32 = _ &&& 0x1FFFF#32 := h
    simp [decodeWord_eq_ite, decodeMajor, decodeOp, encode, opcodeF_congr h, funct10F_congr h]
    exact ⟨rfl, rfl⟩
  | addw | subw | sllw | srlw | sraw | mulw | divw | divuw | remw | remuw =>
    replace h : _ &&& 0x1FFFF#32 = _ &&& 0x1FFFF#32 := h
    simp [decodeWord_eq_ite, decodeMajor, decodeOp32, encode, opcodeF_congr h, funct10F_congr h]
    exact ⟨rfl, rfl⟩
  | lui | j | jal =>
    replace h : _ &&& 0x7F#32 = _ &&& 0x7F#32 := h
    simp [decodeWord_eq_ite, decodeMajor, encode, opcodeF_congr h]
    exact ⟨rfl, rfl⟩
  | beq | bne | blt | bge | bltu | bgeu =>
    replace h : _ &&& 0x3FF#32 = _ &&& 0x3FF#32 := h
    simp [decodeWord_eq_ite, decodeMajor, decodeBranch, encode, opcodeF_congr h, funct3F_congr h]
    exact ⟨rfl, rfl⟩
  | jalrC | jalrR | jalrJ =>
    replace h : _ &&& 0x3FF#32 = _ &&& 0x3FF#32 := h
    simp [decodeWord_eq_ite, decodeMajor, decodeJalr, encode, opcodeF_congr h, funct3F_congr h]
    exact ⟨rfl, rfl⟩
  | rdnpc =>
    replace h : _ &&& 0x7FFFFFF#32 = _ &&& 0x7FFFFFF#32 := h
    simp [decodeWord_eq_ite, decodeMajor, decodeJalr, decodeRdnpc, encode, opcodeF_congr h, funct3F_congr h,
      rs1F_congr h, iImmF_congr h]
    exact ⟨rfl, rfl⟩
  | fence | fenceI =>
    replace h : _ &&& 0x3FF#32 = _ &&& 0x3FF#32 := h
    simp [decodeWord_eq_ite, decodeMajor, decodeMiscMem, encode, opcodeF_congr h, funct3F_congr h]
    exact ⟨rfl, rfl⟩
  | syscall | brk =>
    replace h : _ &&& 0xFFFFFFFF#32 = _ &&& 0xFFFFFFFF#32 := h
    simp [decodeWord_eq_ite, decodeMajor, decodeSystem, decodeSystemFunct, decodeCall, encode, opcodeF_congr h,
      funct10F_congr h, rdF_congr h, rs1F_congr h, rs2F_congr h]
    exact ⟨rfl, rfl⟩
  | rdcycle | rdtime | rdinstret =>
    replace h : _ &&& 0x7FFFFFF#32 = _ &&& 0x7FFFFFF#32 := h
    simp [decodeWord_eq_ite, decodeMajor, decodeSystem, decodeSystemFunct, encode, opcodeF_congr h, funct10F_congr
      h, rs1F_congr h, rs2F_congr h]
    exact ⟨rfl, rfl⟩
  | fmaddS | fmsubS | fnmsubS | fnmaddS | fmaddD | fmsubD | fnmsubD | fnmaddD =>
    replace h : _ &&& 0x1FF#32 = _ &&& 0x1FF#32 := h
    simp [decodeWord_eq_ite, decodeMajor, decodeMadd, decodeMsub, decodeNmsub, decodeNmadd, encode, opcodeF_congr
      h, fmtF_congr h]
    exact ⟨rfl, rfl⟩
  | faddS | fsubS | fmulS | fdivS | faddD | fsubD | fmulD | fdivD =>
    replace h : _ &&& 0x1F1FF#32 = _ &&& 0x1F1FF#32 := h
    simp [decodeWord_eq_ite, decodeMajor, decodeOpFp, decodeOpFpS, decodeOpFpD, encode, opcodeF_congr h,
      fmtF_congr h, funct5F_congr h]
    exact ⟨rfl, rfl⟩
  | fsqrtS | fcvtLS | fcvtLuS | fcvtWS | fcvtWuS | fcvtSL | fcvtSLu | fcvtSW | fcvtSWu | fcvtSD
  | fsqrtD | fcvtLD | fcvtLuD | fcvtWD | fcvtWuD | fcvtDL | fcvtDLu | fcvtDW | fcvtDWu | fcvtDS =>
    replace h : _ &&& 0x3FF1FF#32 = _ &&& 0x3FF1FF#32 := h
    simp [decodeWord_eq_ite, decodeMajor, decodeOpFp, decodeOpFpS, decodeOpFpD, needZero, encode, opcodeF_congr h,
      fmtF_congr h, funct5F_congr h, rs2F_congr h]
    exact ⟨rfl, rfl⟩
  | fminS | fmaxS | fsgnjS | fsgnjnS | fsgnjxS | feqS | fltS | fleS
  | fminD | fmaxD | fsgnjD | fsgnjnD | fsgnjxD | feqD | fltD | fleD =>
    replace h : _ &&& 0x1FFFF#32 = _ &&& 0x1FFFF#32 := h
    simp [decodeWord_eq_ite, decodeMajor, decodeOpFp, decodeOpFpS, decodeOpFpD, needRm0, encode, opcodeF_congr h,
      fmtF_congr h, funct5F_congr h, rmF_congr h]
    exact ⟨rfl, rfl⟩
  | mftxS | mftxD =>
    replace h : _ &&& 0x7C1FFFF#32 = _ &&& 0x7C1FFFF#32 := h
    simp [decodeWord_eq_ite, decodeMajor, decodeOpFp, decodeOpFpS, decodeOpFpD, needRm0, needZero, encode,
      opcodeF_congr h, fmtF_congr h, funct5F_congr h, rmF_congr h, rs1F_congr h]
    exact ⟨rfl, rfl⟩
  | mxtfS | mtfsr | mxtfD =>
    replace h : _ &&& 0x3FFFFF#32 = _ &&& 0x3FFFFF#32 := h
    simp [decodeWord_eq_ite, decodeMajor, decodeOpFp, decodeOpFpS, decodeOpFpD, needRm0, needZero, encode,
      opcodeF_congr h, fmtF_congr h, funct5F_congr h, rmF_congr h, rs2F_congr h]
    exact ⟨rfl, rfl⟩
  | mffsr =>
    replace h : _ &&& 0x7FFFFFF#32 = _ &&& 0x7FFFFFF#32 := h
    simp [decodeWord_eq_ite, decodeMajor, decodeOpFp, decodeOpFpS, needRm0, needZero, encode, opcodeF_congr h,
      fmtF_congr h, funct5F_congr h, rmF_congr h, rs1F_congr h, rs2F_congr h]
    exact ⟨rfl, rfl⟩

/-- Settles O3: a word that carries the fixed bits of a row is read as an instruction of that row, and of no other. -/
theorem tableDecides : Obligations.TableDecides := by
  intro w
  refine ⟨⟨?_, ?_⟩, fun i => matches_of_decodeWord, ?_⟩
  · rintro ⟨i, h⟩
    exact ⟨i, matches_of_decodeWord h⟩
  · rintro ⟨i, h⟩
    obtain ⟨k, hk, -⟩ := decodeWord_of_matches h
    exact ⟨k, hk⟩
  · intro i j hi hj
    obtain ⟨k, hk, hmask, hmatch⟩ := decodeWord_of_matches hi
    obtain ⟨l, hl, hmask', hmatch'⟩ := decodeWord_of_matches hj
    obtain rfl : k = l := Except.ok.inj (hk.symm.trans hl)
    exact ⟨hmask.symm.trans hmask', hmatch.symm.trans hmatch'⟩

theorem decodeWord_of_encode_eq {w : InstWord} {i : Instr} (h : encode i = w) : decodeWord w = .ok i :=
  h ▸ decodeWord_encode i

/-- Settles O4: each word is the encoding of the instruction that it stands for. -/
theorem decodeWords : Obligations.DecodeWords := by
  refine ⟨?_, ?_, ?_, ?_, ?_, ?_, ?_, ?_, ?_, ?_, ?_, ?_, ?_, ?_, ?_⟩ <;>
    exact decodeWord_of_encode_eq (by decide)

/-- The decoders of the five floating-point opcodes refuse the two reserved formats (R318). -/
theorem decodeMajor_of_reservedFmt {w : InstWord}
    (hop : opcodeF w ∈ [0b1010011#7, 0b1000011#7, 0b1000111#7, 0b1001011#7, 0b1001111#7])
    (hfmt : fmtF w ∈ [0b10#2, 0b11#2]) : decodeMajor w = .error .reservedFmt := by
  simp only [List.mem_cons, List.not_mem_nil, or_false] at hop hfmt
  have hOpFp : decodeOpFp w = .error .reservedFmt := by rcases hfmt with h | h <;> simp [decodeOpFp, h]
  have hMadd : decodeMadd w = .error .reservedFmt := by rcases hfmt with h | h <;> simp [decodeMadd, h]
  have hMsub : decodeMsub w = .error .reservedFmt := by rcases hfmt with h | h <;> simp [decodeMsub, h]
  have hNmsub : decodeNmsub w = .error .reservedFmt := by rcases hfmt with h | h <;> simp [decodeNmsub, h]
  have hNmadd : decodeNmadd w = .error .reservedFmt := by rcases hfmt with h | h <;> simp [decodeNmadd, h]
  rcases hop with h | h | h | h | h <;> simp [decodeMajor, *]

end Sys2Proof
end

section
/-! A step up to the execution of its instruction (R14, R54, R461, R471): what is checked before the fetch, and what
the fetched word leads to. -/
namespace Sys2Proof.Machine

section
variable {s : State} {w : InstWord} {i : Instr}

theorem State.admits_iff {k : AccessKind} {a : Word} {n : Nat} :
    s.admits k a n = true ↔ ∀ b ∈ s.addrs a n, memValid s.params k b = true := List.all_eq_true

theorem withFetch_of_fetches (h : Fetches s w) (k : InstWord → Out) : withFetch s k = k w := by
  obtain ⟨hpc, hvalid, rfl⟩ := h
  simp only [withFetch, hpc, ne_eq, not_true_eq_false, if_false]
  exact withAccess_of_admitted _ (State.admits_iff.mp hvalid)

theorem step_of_decodes (h : Fetches s w) (hi : decodeWord w = .ok i) : step s = retired i s (exec i s) := by
  rw [step, withFetch_of_fetches h, hi]

/-- A word that is no instruction's raises IllegalInstruction (R461). -/
theorem step_of_not_decodes (h : Fetches s w) (hw : ∀ i, decodeWord w ≠ .ok i) :
    step s = .fault (.illegalInstruction s.pcVal w) := by
  rw [step, withFetch_of_fetches h]
  split
  case h_1 i hi => exact absurd hi (hw i)
  case h_2 => rfl

end

/-- Settles O5: no instruction is read from a word that matches no row. -/
theorem undefinedWordsTrap : Obligations.UndefinedWordsTrap := fun _ _ hfetch hrow =>
  step_of_not_decodes hfetch fun i hi => hrow i (matches_of_decodeWord hi)

/-- Settles O6: the two low-bit patterns are refused before the opcode map, the formats below it. -/
theorem reservedWordsTrap : Obligations.ReservedWordsTrap := by
  intro s w hfetch hreserved
  refine step_of_not_decodes hfetch fun i => ?_
  unfold decodeWord
  split_ifs with hlow hlong
  · exact nofun
  · exact nofun
  · rcases hreserved with h | h | ⟨hop, hfmt⟩
    · exact absurd h hlow
    · exact absurd h hlong
    · rw [decodeMajor_of_reservedFmt hop hfmt]
      exact nofun

/-- Settles O7: a step on a decoded word is the retirement of its instruction. -/
theorem stepRunsDecoded : Obligations.StepRunsDecoded := by
  intro s w i hfetch hi
  rw [step_of_decodes hfetch hi]
  refine ⟨fun t ht => ?_, fun e he => ?_⟩
  · rw [ht]
    rfl
  · rw [he]
    rfl

/-- Settles O8: the alignment of the pc is checked first, then the access. -/
theorem fetchTraps : Obligations.FetchTraps := by
  intro s
  constructor
  · intro hpc
    exact if_pos hpc
  · intro a hpc ha
    have hstep : step s = withAccess .fetch s.pcVal 4 s _ := if_neg (not_not.mpr hpc)
    rw [hstep, withAccess_of_refused _ ha]

/-! ### What a fetch may see of earlier stores (R68, R504, D30) -/

theorem getD_eq_or_mem {α : Type} (l : List α) (n : Nat) (d : α) : l.getD n d = d ∨ l.getD n d ∈ l := by
  rw [List.getD_eq_getElem?_getD]
  cases h : l[n]? with
  | none => exact .inl rfl
  | some x => exact .inr (List.mem_of_getElem? h)

theorem State.mem_oldParcels {s : State} {p : Nat} {o : StaleParcel} (h : o ∈ s.oldParcels p) :
    o ∈ s.stale ∧ o.addr = p := by
  simpa [State.oldParcels] using h

/-- The parcel that a fetch sees is the current one or a recorded one (R68). -/
theorem State.seenParcel_cases (s : State) (p : Nat) :
    s.seenParcel p = currentParcel s.mem p ∨ s.seenParcel p ∈ s.oldParcels p := by
  unfold State.seenParcel
  split
  case h_1 => exact .inl rfl
  case h_2 o os hold =>
    rw [hold]
    rcases getD_eq_or_mem (currentParcel s.mem p :: o :: os) (Config.fetchChoice s.draws p % (os.length + 2))
      (currentParcel s.mem p) with h | h
    · exact .inl h
    · exact List.mem_cons.mp h

theorem State.oldParcels_of_stale_eq_nil {s : State} (h : s.stale = []) (p : Nat) : s.oldParcels p = [] := by
  rw [State.oldParcels, h, List.filter_nil]

section
variable {before after : List Host.Cell} {al : Bool} {written : List Nat} {p : Nat} {o : StaleParcel}

theorem currentParcel_mem_parcelHistory : currentParcel before p ∈ parcelHistory before after al written p := by
  unfold parcelHistory
  split
  · exact List.mem_cons_self
  · exact List.mem_cons_self

/-- An aligned store leaves the parcel as it stood, and nothing else. -/
theorem mem_parcelHistory_aligned (h : o ∈ parcelHistory before after true written p) :
    o = currentParcel before p := by
  simpa [parcelHistory] using h

/-- Each byte of what a store leaves of a parcel is the one before the store or the one after it. -/
theorem mem_parcelHistory (h : o ∈ parcelHistory before after al written p) : o.addr = p ∧
    (o.b0 = Memory.read before p ∨ o.b0 = Memory.read after p) ∧
    (o.b1 = Memory.read before (p + 1) ∨ o.b1 = Memory.read after (p + 1)) := by
  unfold parcelHistory at h
  dsimp only at h
  split at h
  · simp only [List.mem_cons, List.not_mem_nil, or_false] at h
    rcases h with rfl | rfl | rfl
    · exact ⟨rfl, .inl rfl, .inl rfl⟩
    · exact ⟨rfl, .inr rfl, .inl rfl⟩
    · exact ⟨rfl, .inl rfl, .inr rfl⟩
  · rw [List.mem_singleton] at h
    subst h
    exact ⟨rfl, .inl rfl, .inl rfl⟩

end

section
variable (s : State) (addr : Word) (n : Nat) (v : Word)

theorem State.mem_stale_store {o : StaleParcel} : o ∈ (s.store addr n v).stale ↔ o ∈ s.stale ∨
    ∃ a ∈ s.addrs addr n,
      o ∈ parcelHistory s.mem (s.store addr n v).mem (decide (addr.toNat % n = 0)) (s.addrs addr n) (parcelAddr a) :=
  List.mem_append.trans (or_congr_right mem_storeHistory)

/-- A store records the parcels of its bytes as they were (R68), and where it is misaligned their mixed values (R58). -/
theorem State.recordsParcels_store : RecordsParcels (s.addrs addr n) s (s.store addr n v) where
  kept _ ho := (s.mem_stale_store addr n v).mpr (.inl ho)
  added a ha := (s.mem_stale_store addr n v).mpr (.inr ⟨a, ha, currentParcel_mem_parcelHistory⟩)
  only o ho := by
    rcases (s.mem_stale_store addr n v).mp ho with ho | ⟨a, ha, ho⟩
    · exact .inl ho
    · obtain ⟨haddr, hb0, hb1⟩ := mem_parcelHistory ho
      rw [← haddr] at hb0 hb1
      exact .inr ⟨⟨a, ha, haddr⟩, hb0, hb1⟩

theorem State.mem_stale_store_aligned (h : addr.toNat % n = 0) {o : StaleParcel}
    (ho : o ∈ (s.store addr n v).stale) :
    o ∈ s.stale ∨ ∃ a ∈ s.addrs addr n, o = currentParcel s.mem (parcelAddr a) := by
  rcases (s.mem_stale_store addr n v).mp ho with ho | ⟨a, ha, ho⟩
  · exact .inl ho
  · rw [decide_eq_true h] at ho
    exact .inr ⟨a, ha, mem_parcelHistory_aligned ho⟩

end

/-- Settles O10: what a fetch sees is the current parcel or a recorded one, and a store records the old ones. -/
theorem fetchRace : Obligations.FetchRace := by
  refine ⟨fun s p => (s.seenParcel_cases p).imp_right State.mem_oldParcels,
    fun s addr n v => ⟨s.recordsParcels_store addr n v, fun h o ho => s.mem_stale_store_aligned addr n v h ho⟩,
    fun s p h => State.seenParcel_of_oldParcels_eq_nil (State.oldParcels_of_stale_eq_nil h p)⟩

/-- Settles O11: FENCE is the advance of the pc, and FENCE.I drops what was recorded before it. -/
theorem fences : Obligations.Fences := by
  intro s rd rs1 imm
  refine ⟨⟨s.advance, rfl, jumpFrame_setPc s _, .of_advance rfl rfl⟩,
    ⟨s.fenceI.advance, rfl, fun _ => rfl, fun _ => rfl, rfl, fun _ => rfl, ⟨rfl, rfl, rfl, rfl, rfl⟩,
      .of_advance (u := s.fenceI) rfl rfl, rfl, fun p => ?_⟩⟩
  exact State.seenParcel_of_oldParcels_eq_nil (State.oldParcels_of_stale_eq_nil rfl p)

end Sys2Proof.Machine
end

section
/-! Multiplication and division (R246 to R260, R264): the operations at every width, as the vectors of their numbers;
the identity of dividend and divisor is then one of numbers. -/
namespace Sys2Proof.Machine

section
variable {n : Nat} (a b : BitVec n)

theorem mulhOp_eq_ofInt : mulhOp n a b = BitVec.ofInt n (a.toInt * b.toInt / (2 ^ n : Nat)) := by
  simp [mulhOp]

theorem mulhuOp_eq_ofInt : mulhuOp n a b = BitVec.ofInt n (a.toNat * b.toNat / 2 ^ n : Nat) :=
  (BitVec.ofInt_natCast ..).symm

theorem mulhsuOp_eq_ofInt : mulhsuOp n a b = BitVec.ofInt n (a.toInt * b.toNat / (2 ^ n : Nat)) := by
  simp [mulhsuOp]

/-! ### The four divisions (R252) -/

theorem eq_zero_iff_toNat : b = 0 ↔ b.toNat = 0 := BitVec.toNat_inj.symm.trans (by simp)

theorem allOnes_eq_ofInt : BitVec.allOnes n = BitVec.ofInt n (-1) := by
  rw [← BitVec.neg_one_eq_allOnes, BitVec.ofInt_neg]
  rfl

theorem divOp_eq_ofInt : divOp n a b = BitVec.ofInt n
    (if b.toNat = 0 then -1 else if a.toInt = -2 ^ (n - 1) ∧ b.toInt = -1 then a.toNat
      else a.toInt.tdiv b.toInt) := by
  simp only [divOp, eq_zero_iff_toNat]
  split_ifs
  · exact allOnes_eq_ofInt
  · exact eq_ofInt_of_toNat_eq a rfl
  · rfl

theorem remOp_eq_ofInt : remOp n a b = BitVec.ofInt n
    (if b.toNat = 0 then a.toNat else if a.toInt = -2 ^ (n - 1) ∧ b.toInt = -1 then 0
      else a.toInt.tmod b.toInt) := by
  simp only [remOp, eq_zero_iff_toNat, Int.tmod_def]
  split_ifs
  · exact eq_ofInt_of_toNat_eq a rfl
  · exact (BitVec.ofInt_ofNat n 0).symm
  · rfl

theorem divuOp_eq_ofInt : divuOp n a b = BitVec.ofInt n
    (if b.toNat = 0 then -1 else (a.toNat / b.toNat : Nat)) := by
  simp only [divuOp, eq_zero_iff_toNat]
  split_ifs
  · exact allOnes_eq_ofInt
  · exact (BitVec.ofInt_natCast ..).symm

theorem remuOp_eq_ofInt : remuOp n a b = BitVec.ofInt n
    (if b.toNat = 0 then a.toNat else (a.toNat % b.toNat : Nat)) := by
  simp only [remuOp, eq_zero_iff_toNat]
  split_ifs
  · exact eq_ofInt_of_toNat_eq a rfl
  · exact (BitVec.ofInt_natCast ..).symm

/-! ### The results as signed numbers -/

/-- A quotient fits but where the most negative number is divided by −1. -/
theorem toInt_ofInt_tdiv (hn : 0 < n) (h : ¬ (a.toInt = -2 ^ (n - 1) ∧ b.toInt = -1)) :
    (BitVec.ofInt n (a.toInt.tdiv b.toInt)).toInt = a.toInt.tdiv b.toInt := by
  have hne : a ≠ BitVec.intMin n ∨ b ≠ -1#n := by
    by_contra hcon
    simp only [not_or, not_not] at hcon
    obtain ⟨rfl, rfl⟩ := hcon
    rw [BitVec.neg_one_eq_allOnes] at h
    exact h ⟨BitVec.toInt_intMin_of_pos hn, BitVec.toInt_allOnes.trans (if_pos hn)⟩
  rw [BitVec.toInt_ofInt, ← BitVec.toInt_sdiv, BitVec.toInt_sdiv_of_ne_or_ne _ _ hne]

/-- A remainder fits. -/
theorem toInt_ofInt_tmod : (BitVec.ofInt n (a.toInt.tmod b.toInt)).toInt = a.toInt.tmod b.toInt := by
  rw [← BitVec.toInt_srem, BitVec.ofInt_toInt]

theorem toInt_divOp (hn : 0 < n) : (divOp n a b).toInt =
    if b.toNat = 0 then -1 else if a.toInt = -2 ^ (n - 1) ∧ b.toInt = -1 then a.toInt
      else a.toInt.tdiv b.toInt := by
  simp only [divOp, eq_zero_iff_toNat]
  split_ifs with hzero hover
  · exact BitVec.toInt_allOnes.trans (if_pos hn)
  · rfl
  · exact toInt_ofInt_tdiv a b hn hover

theorem toInt_remOp : (remOp n a b).toInt =
    if b.toNat = 0 then a.toInt else if a.toInt = -2 ^ (n - 1) ∧ b.toInt = -1 then 0
      else a.toInt.tmod b.toInt := by
  simp only [remOp, eq_zero_iff_toNat, ← Int.tmod_def]
  split_ifs
  · rfl
  · exact BitVec.toInt_zero
  · exact toInt_ofInt_tmod a b

theorem toInt_divuOp (hn : 0 < n) : (divuOp n a b).toInt =
    if b.toNat = 0 then -1 else Int.bmod (a.toNat / b.toNat : Nat) (2 ^ n) := by
  simp only [divuOp, eq_zero_iff_toNat]
  split_ifs
  · exact BitVec.toInt_allOnes.trans (if_pos hn)
  · exact BitVec.toInt_ofNat ..

theorem toInt_remuOp : (remuOp n a b).toInt =
    if b.toNat = 0 then a.toInt else Int.bmod (a.toNat % b.toNat : Nat) (2 ^ n) := by
  simp only [remuOp, eq_zero_iff_toNat]
  split_ifs
  · rfl
  · exact BitVec.toInt_ofNat ..

/-! ### The identity -/

/-- As a vector the quotient is that of the numbers in the overflow too: `2^(n−1)` is there its own opposite. -/
theorem divOp_of_ne_zero (hb : b ≠ 0) : divOp n a b = BitVec.ofInt n (a.toInt.tdiv b.toInt) := by
  rw [divOp, if_neg hb]
  split_ifs with hover
  · obtain ⟨ha, hb'⟩ := hover
    have hn : 0 < n := Nat.pos_of_ne_zero fun h => hb (by subst h; exact BitVec.of_length_zero)
    obtain rfl : a = BitVec.intMin n := BitVec.eq_of_toInt_eq (ha.trans (BitVec.toInt_intMin_of_pos hn).symm)
    rw [hb', Int.tdiv_neg, Int.tdiv_one, BitVec.ofInt_neg, BitVec.ofInt_toInt, BitVec.neg_intMin]
  · rfl

theorem mul_divOp_add_remOp : b * divOp n a b + remOp n a b = a := by
  by_cases hb : b = 0
  · simp [hb, remOp]
  · have hrem : remOp n a b = BitVec.ofInt n (a.toInt - b.toInt * a.toInt.tdiv b.toInt) := by
      rw [remOp, if_neg hb]
      split_ifs with hover
      · simp [hover.2]
      · rfl
    rw [divOp_of_ne_zero a b hb, hrem]
    calc b * BitVec.ofInt n (a.toInt.tdiv b.toInt) + BitVec.ofInt n (a.toInt - b.toInt * a.toInt.tdiv b.toInt)
        = BitVec.ofInt n (b.toInt * a.toInt.tdiv b.toInt + (a.toInt - b.toInt * a.toInt.tdiv b.toInt)) := by
          rw [BitVec.ofInt_add, BitVec.ofInt_mul, BitVec.ofInt_toInt]
      _ = a := by rw [add_sub_cancel, BitVec.ofInt_toInt]

theorem mul_divuOp_add_remuOp : b * divuOp n a b + remuOp n a b = a := by
  by_cases hb : b = 0
  · simp [hb, remuOp]
  · rw [divuOp, remuOp, if_neg hb, if_neg hb]
    calc b * BitVec.ofNat n (a.toNat / b.toNat) + BitVec.ofNat n (a.toNat % b.toNat)
        = BitVec.ofNat n (b.toNat * (a.toNat / b.toNat) + a.toNat % b.toNat) := by
          rw [BitVec.ofNat_add, BitVec.ofNat_mul, BitVec.ofNat_toNat, BitVec.setWidth_eq]
      _ = a := by rw [Nat.div_add_mod, BitVec.ofNat_toNat, BitVec.setWidth_eq]

end

/-! ### The obligations -/

/-- Settles O20: the low half of the product modulo 2^XPRLEN, and the three high halves. -/
theorem multiply : Obligations.Multiply := by
  intro s rd rs1 rs2
  refine ⟨completesX_of_regReg rfl ?mul, completesX_of_regReg rfl ?mulh, completesX_of_regReg rfl ?mulhu,
    completesX_of_regReg rfl ?mulhsu⟩
  case mul => simp [mulOp_eq_ofInt]
  case mulh => simp only [mulhOp_eq_ofInt, State.toInt_xBits, State.modulus]
  case mulhu => simp only [mulhuOp_eq_ofInt, State.toNat_xBits, State.modulus]
  case mulhsu => simp only [mulhsuOp_eq_ofInt, State.toInt_xBits, State.toNat_xBits, State.modulus]

/-- Settles O21: the four divisions at XPRLEN bits. -/
theorem divide : Obligations.Divide := by
  intro s rd rs1 rs2
  refine ⟨completesX_of_regReg rfl ?div, completesX_of_regReg rfl ?divu, completesX_of_regReg rfl ?rem,
    completesX_of_regReg rfl ?remu⟩
  case div => simp only [divOp_eq_ofInt, State.toInt_xBits, State.toNat_xBits]
  case divu => simp only [divuOp_eq_ofInt, State.toNat_xBits]
  case rem => simp only [remOp_eq_ofInt, State.toInt_xBits, State.toNat_xBits]
  case remu => simp only [remuOp_eq_ofInt, State.toNat_xBits]

/-- Settles O22: on RV64 the four divisions at 32 bits; on RV32 each row is missing. -/
theorem divideWord : Obligations.DivideWord := by
  intro s rd rs1 rs2
  constructor
  · intro hx
    refine ⟨completesX_of_regW hx rfl ?divw, completesX_of_regW hx rfl ?divuw, completesX_of_regW hx rfl ?remw,
      completesX_of_regW hx rfl ?remuw⟩
    case divw =>
      rw [toInt_divOp _ _ (by decide), State.toNat_setWidth_getX_low]
      rfl
    case divuw => rw [toInt_divuOp _ _ (by decide), State.toNat_setWidth_getX_low, State.toNat_setWidth_getX_low]
    case remw =>
      rw [toInt_remOp, State.toNat_setWidth_getX_low]
      rfl
    case remuw => rw [toInt_remuOp, State.toNat_setWidth_getX_low, State.toNat_setWidth_getX_low, State.sxLow]
  · intro hx
    exact ⟨trapsIllegal_of_rv64Only hx rfl, trapsIllegal_of_rv64Only hx rfl, trapsIllegal_of_rv64Only hx rfl,
      trapsIllegal_of_rv64Only hx rfl⟩

/-- Settles O23: the identity of the numbers, modulo 2^n. -/
theorem divisionIdentity : Obligations.DivisionIdentity := fun _ a b _ =>
  ⟨mul_divOp_add_remOp a b, mul_divuOp_add_remuOp a b⟩

end Sys2Proof.Machine
end

section
/-! The numbers that the bytes of an access hold (R52, R53): what a load reads is the sum of the bytes, each with the
weight of its place, and each byte that a store writes is the digit of its place. -/
namespace Sys2Proof.Machine

/-! ### Byte sequences as numbers -/

theorem leValue_lt (bs : List Byte) : leValue bs < 256 ^ bs.length := by
  induction bs with
  | nil => simp [leValue]
  | cons b bs ih =>
    have hb := b.isLt
    rw [leValue, List.length_cons, pow_succ]
    omega

theorem leValue_map_range (n : Nat) (f : Nat → Byte) :
    leValue ((List.range n).map f) = ((List.range n).map fun i => (f i).toNat * 256 ^ i).sum := by
  induction n generalizing f with
  | zero => rfl
  | succ n ih =>
    rw [List.range_succ_eq_map, List.map_cons, List.map_map, leValue, ih, List.map_cons, List.map_map, List.sum_cons,
      ← List.sum_map_mul_left, pow_zero, mul_one]
    congr 3
    funext i
    simp only [Function.comp_apply, Nat.succ_eq_add_one, pow_succ]
    ring

/-- Read from its last byte, a sequence has the weights in reverse. -/
theorem leValue_reverse_map_range (n : Nat) (f : Nat → Byte) :
    leValue ((List.range n).map f).reverse = ((List.range n).map fun i => (f i).toNat * 256 ^ (n - 1 - i)).sum := by
  induction n with
  | zero => rfl
  | succ n ih =>
    have hweights : ∀ i ∈ List.range n,
        (f i).toNat * 256 ^ (n + 1 - 1 - i) = 256 * ((f i).toNat * 256 ^ (n - 1 - i)) := by
      intro i hi
      have hlt := List.mem_range.mp hi
      have hexp : n + 1 - 1 - i = n - 1 - i + 1 := by omega
      rw [hexp, pow_succ]
      ring
    rw [List.range_succ, List.map_append, List.map_append, List.reverse_append, List.map_singleton,
      List.reverse_singleton, List.singleton_append, leValue, ih, List.sum_append, List.map_congr_left hweights,
      List.sum_map_mul_left, List.map_singleton, List.sum_singleton]
    simp [add_comm]

theorem State.memNat_lt (s : State) (a n : Nat) : s.memNat a n < 256 ^ n := by
  have hlt : ∀ bs : List Byte, bs.length = n → leValue bs < 256 ^ n := fun bs h => h ▸ leValue_lt bs
  rw [State.memNat]
  cases s.endian with
  | little => exact (leValue_map_range ..).symm.trans_lt (hlt _ (by simp))
  | big => exact (leValue_reverse_map_range ..).symm.trans_lt (hlt _ (by simp))

/-- A load of at most eight bytes reads the number that they hold (R52). -/
theorem State.toNat_load (s : State) (addr : Word) {n : Nat} (hn : n ≤ 8) :
    (s.load addr n).toNat = s.memNat addr.toNat n := by
  have hbytes : (s.addrs addr n).map s.readByte =
      (List.range n).map fun i => s.readByte ((addr.toNat + i) % s.modulus) := List.map_map ..
  have hlt : ∀ bs : List Byte, bs.length = n → leValue bs < 2 ^ 64 := fun bs h =>
    (leValue_lt bs).trans_le (h ▸ Nat.pow_le_pow_right (by decide : 0 < 256) hn)
  rw [State.load, hbytes, State.memNat]
  cases s.endian with
  | little =>
    rw [valueOfBytes, BitVec.toNat_ofNat, Nat.mod_eq_of_lt (hlt _ (by simp)), leValue_map_range]
    rfl
  | big =>
    rw [valueOfBytes, BitVec.toNat_ofNat, Nat.mod_eq_of_lt (hlt _ (by simp)), leValue_reverse_map_range]
    rfl

theorem toNat_getElem_leBytes (n : Nat) (v : Word) (i : Nat) (h : i < (leBytes n v).length) :
    (leBytes n v)[i].toNat = v.toNat / 256 ^ i % 256 := by
  induction n generalizing v i with
  | zero => simp [leBytes] at h
  | succ n ih =>
    cases i with
    | zero => simp [leBytes]
    | succ i =>
      simp only [leBytes, List.getElem_cons_succ, ih, BitVec.toNat_ushiftRight, Nat.shiftRight_eq_div_pow,
        Nat.div_div_eq_div_mul]
      rw [pow_succ' 256 i]

/-- Each byte of a stored value is the digit of its place (R53). -/
theorem toNat_getElem_bytesOfValue (e : Endian) (n : Nat) (v : Word) (i : Nat)
    (h : i < (bytesOfValue e n v).length) :
    (bytesOfValue e n v)[i].toNat = v.toNat / byteWeight e n i % 256 := by
  cases e with
  | little => exact toNat_getElem_leBytes n v i h
  | big =>
    simp only [bytesOfValue, List.getElem_reverse, toNat_getElem_leBytes, length_leBytes, byteWeight]

/-- The digits of the bytes of an access are those of every number with the same low bytes. -/
theorem byte_digit_congr {e : Endian} {n i x y : Nat} (hi : i < n) (h : x % 256 ^ n = y % 256 ^ n) :
    x / byteWeight e n i % 256 = y / byteWeight e n i % 256 := by
  have hdigit : ∀ j, j < n → x / 256 ^ j % 256 = y / 256 ^ j % 256 := by
    intro j hj
    have hdvd : 256 ^ (j + 1) ∣ 256 ^ n := Nat.pow_dvd_pow 256 hj
    have hlow : x % 256 ^ (j + 1) = y % 256 ^ (j + 1) := by
      rw [← Nat.mod_mod_of_dvd x hdvd, h, Nat.mod_mod_of_dvd y hdvd]
    rw [pow_succ] at hlow
    rw [← Nat.mod_mul_right_div_self, hlow, Nat.mod_mul_right_div_self]
  cases e with
  | little => exact hdigit i hi
  | big => exact hdigit (n - 1 - i) (by omega)

theorem State.memHolds_store (s : State) (addr v : Word) {n x : Nat} (hn : n ≤ 8)
    (hx : v.toNat % 256 ^ n = x % 256 ^ n) : (s.store addr n v).memHolds addr.toNat n x := by
  intro i hi
  have hbyte := s.readByte_store addr hn v hi
  rw [State.modulus, State.store_xlen, State.store_endian, hbyte, toNat_getElem_bytesOfValue, byte_digit_congr hi hx]

/-! ### A loaded value in a register -/

section
variable (s : State) (addr : Word) {n : Nat}

theorem State.setWidth_load (hn : n ≤ 8) (w : Nat) :
    (s.load addr n).setWidth w = BitVec.ofNat w (s.memNat addr.toNat n) := by
  apply BitVec.eq_of_toNat_eq
  rw [BitVec.toNat_setWidth, BitVec.toNat_ofNat, s.toNat_load addr hn]

theorem State.setWidth_zextLoad_load (hn : n ≤ 8) (w : Nat) :
    (zextLoad (s.load addr n)).setWidth w = BitVec.ofInt w (s.memNat addr.toNat n) :=
  (s.setWidth_load addr hn w).trans (BitVec.ofInt_natCast ..).symm

/-- The low `k` bits of a loaded value, as a signed number. -/
theorem State.toInt_setWidth_load (hn : n ≤ 8) (k : Nat) :
    ((s.load addr n).setWidth k).toInt = Int.bmod (s.memNat addr.toNat n) (2 ^ k) := by
  rw [s.setWidth_load addr hn]
  exact BitVec.toInt_ofNat ..

/-- A loaded value, sign-extended from `k` bits. -/
theorem State.setWidth_signExtend_load (hn : n ≤ 8) (k : Nat) {w : Nat} (hw : w ≤ 64) :
    (((s.load addr n).setWidth k).signExtend 64).setWidth w =
      BitVec.ofInt w (Int.bmod (s.memNat addr.toNat n) (2 ^ k)) := by
  rw [← s.toInt_setWidth_load addr hn]
  exact setWidth_ofInt hw _

end

/-- The effective address, as a number (R140). -/
theorem State.toNat_effAddr (s : State) (rs1 : XReg) (imm : BitVec 12) :
    ((s.effAddr rs1 imm).toNat : Int) = (s.ux rs1 + imm.toInt) % s.modulus := by
  rw [State.effAddr, s.getX_add_immWord]
  exact toNat_wrap_of_setWidth_eq (setWidth_ofInt (bits_le _) _)

end Sys2Proof.Machine
end

section
/-! The loads, stores and AMOs (R140 to R189): each shape completes by one lemma where its bytes are admitted, and
faults by one lemma where they are not. What is left to say of an instruction is the number that it loads, stores or
computes. -/
namespace Sys2Proof.Machine

section
variable {i : Instr} {s : State} {rd rs1 rs2 : XReg} {imm : BitVec 12} {n : Nat} {addr : Word}

/-! ### Loads -/

theorem completesX_of_loadX {widen : Word → Word} {v : Int}
    (hvalid : s.admits .read (s.effAddr rs1 imm) n = true) (hexec : exec i s = loadX n widen rd rs1 imm s)
    (hval : (widen (s.load (s.effAddr rs1 imm) n)).setWidth s.xlen.bits = BitVec.ofInt s.xlen.bits v) :
    CompletesX i s rd v :=
  completesX_of_writeX (hexec.trans (withAccess_of_admitted _ (State.admits_iff.mp hvalid))) hval

/-- A write of an f register and an accrual of flags change that register, the flags and the pc only. -/
theorem fFrame_setF_raiseFlags_advance (s : State) (F : Fmt) (rd : FReg) (b : FBits) (e : FlagSet) :
    FFrame rd s ((s.setF F rd b).raiseFlags e).advance where
  x _ := rfl
  f r h := (s.cellF_setF F rd b r).trans (if_neg h)
  mode := State.fsrRM_raiseFlags _ e
  mem _ := rfl
  fetch := rfl
  rest := ⟨rfl, rfl, rfl, rfl, rfl⟩
  pc := State.toNat_pcVal_advance _

theorem fFrame_setF_advance (s : State) (F : Fmt) (rd : FReg) (b : FBits) : FFrame rd s (s.setF F rd b).advance where
  x _ := rfl
  f r h := (s.cellF_setF F rd b r).trans (if_neg h)
  mode := rfl
  mem _ := rfl
  fetch := rfl
  rest := ⟨rfl, rfl, rfl, rfl, rfl⟩
  pc := State.toNat_pcVal_advance _

/-- A write of an f register without flags completes: the register is the cell, and fsr is as it was. -/
theorem completes_of_setF_advance {F : Fmt} {rd : FReg} {b : FBits} {c : FCell}
    (hexec : exec i s = .next (s.setF F rd b).advance) (hcell : cellOf F b = c) :
    ∃ t, exec i s = .next t ∧ FFrame rd s t ∧ KeepsFsr s t ∧ t.cellF rd = c :=
  ⟨_, hexec, fFrame_setF_advance s F rd b, rfl, (s.cellF_setF_self F rd b).trans hcell⟩

/-! ### Stores -/

/-- A store changes the bytes of the access, what fetch may see of them, and the pc. -/
theorem storeFrame_store_advance (s : State) (addr : Word) (n : Nat) (v : Word) :
    StoreFrame (s.addrs addr n) s (s.store addr n v).advance where
  x _ := rfl
  f _ := rfl
  fsr := rfl
  mem _ h := s.readByte_store_of_not_mem addr n v h
  fetch :=
    have h := s.recordsParcels_store addr n v
    ⟨h.kept, h.added, h.only⟩
  rest := ⟨rfl, rfl, rfl, rfl, rfl⟩
  pc := State.toNat_pcVal_advance _

theorem completesStore_of_storeAt {v : Word} {x : Nat} (hn : n ≤ 8)
    (hvalid : s.admits .write (s.effAddr rs1 imm) n = true) (hexec : exec i s = storeAt n v rs1 imm s)
    (hx : v.toNat = x) : CompletesStore i s (s.effAddr rs1 imm) n x :=
  ⟨_, hexec.trans (withAccess_of_admitted _ (State.admits_iff.mp hvalid)), storeFrame_store_advance ..,
    s.memHolds_store _ _ hn (by rw [hx])⟩

/-! ### AMOs -/

theorem amoFrame_store_setX_advance (s : State) (addr : Word) (n : Nat) (v : Word) (rd : XReg) (w : Word) :
    AmoFrame rd (s.addrs addr n) s ((s.store addr n v).setX rd w).advance where
  x := ⟨State.getX_zero _, fun _ h => (s.store addr n v).getX_setX_of_ne w h⟩
  f _ := rfl
  fsr := rfl
  mem _ h := s.readByte_store_of_not_mem addr n v h
  fetch :=
    have h := s.recordsParcels_store addr n v
    ⟨h.kept, h.added, h.only⟩
  rest := ⟨rfl, rfl, rfl, rfl, rfl⟩
  pc := State.toNat_pcVal_advance _

section
variable {op : Word → Word → Word} {widen : Word → Word}

theorem amo_of_aligned (rd rs2 : XReg) (op : Word → Word → Word) (widen : Word → Word)
    (h : (s.getX rs1).toNat % n = 0) :
    amo n op widen rd rs1 rs2 s =
      withAccess .read (s.getX rs1) n s (withAccess .write (s.getX rs1) n s
        (.next (((s.store (s.getX rs1) n (op (s.load (s.getX rs1) n) (s.getX rs2))).setX rd
          (widen (s.load (s.getX rs1) n))).advance))) := if_neg (not_not.mpr h)

theorem completesAmo_of_amo {old : Int} {new : Nat} (hn : n ≤ 8) (halign : (s.getX rs1).toNat % n = 0)
    (hread : s.admits .read (s.getX rs1) n = true) (hwrite : s.admits .write (s.getX rs1) n = true)
    (hexec : exec i s = amo n op widen rd rs1 rs2 s)
    (hold : (widen (s.load (s.getX rs1) n)).setWidth s.xlen.bits = BitVec.ofInt s.xlen.bits old)
    (hnew : (op (s.load (s.getX rs1) n) (s.getX rs2)).toNat % 256 ^ n = new % 256 ^ n) :
    CompletesAmo i s rd (s.getX rs1) n old new := by
  rw [amo_of_aligned rd rs2 op widen halign, withAccess_of_admitted _ (State.admits_iff.mp hread),
    withAccess_of_admitted _ (State.admits_iff.mp hwrite)] at hexec
  refine ⟨_, hexec, amoFrame_store_setX_advance .., ?_, s.memHolds_store _ _ hn hnew⟩
  rw [State.ux, State.advance_getX, State.getX_setX_self]
  split
  · rfl
  · exact toNat_wrap_of_setWidth_eq hold

/-- The read of an AMO is checked before its write (R62). -/
theorem trapsAccess_of_amo {k : AccessKind} {a : Nat} (halign : (s.getX rs1).toNat % n = 0)
    (hrefused : k = .read ∧ firstRefused s.params .read (s.addrs (s.getX rs1) n) = some a ∨
      k = .write ∧ s.admits .read (s.getX rs1) n = true ∧
        firstRefused s.params .write (s.addrs (s.getX rs1) n) = some a)
    (hexec : exec i s = amo n op widen rd rs1 rs2 s) : TrapsAccess i s a k := by
  rw [amo_of_aligned rd rs2 op widen halign] at hexec
  rcases hrefused with ⟨rfl, ha⟩ | ⟨rfl, hread, ha⟩
  · exact hexec.trans (withAccess_of_refused _ ha)
  · rw [withAccess_of_admitted _ (State.admits_iff.mp hread)] at hexec
    exact hexec.trans (withAccess_of_refused _ ha)

end

theorem trapsAccess_of_amoW {op : (n : Nat) → BitVec n → BitVec n → BitVec n} {k : AccessKind} {a : Nat}
    (halign : (s.getX rs1).toNat % 4 = 0)
    (hrefused : k = .read ∧ firstRefused s.params .read (s.addrs (s.getX rs1) 4) = some a ∨
      k = .write ∧ s.admits .read (s.getX rs1) 4 = true ∧
        firstRefused s.params .write (s.addrs (s.getX rs1) 4) = some a)
    (hexec : exec i s = amoW op rd rs1 rs2 s) : TrapsAccess i s a k :=
  trapsAccess_of_amo halign hrefused hexec

theorem trapsAccess_of_amoD {op : (n : Nat) → BitVec n → BitVec n → BitVec n} {k : AccessKind} {a : Nat}
    (hx : s.xlen = .rv64) (halign : (s.getX rs1).toNat % 8 = 0)
    (hrefused : k = .read ∧ firstRefused s.params .read (s.addrs (s.getX rs1) 8) = some a ∨
      k = .write ∧ s.admits .read (s.getX rs1) 8 = true ∧
        firstRefused s.params .write (s.addrs (s.getX rs1) 8) = some a)
    (hexec : exec i s = rv64Only i s (amoD op rd rs1 rs2 s)) : TrapsAccess i s a k :=
  trapsAccess_of_amo halign hrefused (hexec.trans (rv64Only_of_rv64 _ hx))

/-- The old word and the low word of rs2, as an AMO's operator sees them at 32 bits. -/
theorem completesAmo_of_amoW {op : (n : Nat) → BitVec n → BitVec n → BitVec n} {new : Nat}
    (halign : (s.getX rs1).toNat % 4 = 0)
    (hread : s.admits .read (s.getX rs1) 4 = true) (hwrite : s.admits .write (s.getX rs1) 4 = true)
    (hexec : exec i s = amoW op rd rs1 rs2 s)
    (hnew : (op 32 ((s.load (s.getX rs1) 4).setWidth 32) ((s.getX rs2).setWidth 32)).toNat % 2 ^ 32 =
      new % 2 ^ 32) :
    CompletesAmo i s rd (s.getX rs1) 4 (Int.bmod (s.memNat (s.getX rs1).toNat 4) (2 ^ 32)) new := by
  refine completesAmo_of_amo (by decide) halign hread hwrite hexec
    (s.setWidth_signExtend_load _ (by decide) 32 (bits_le _)) ?_
  rw [BitVec.toNat_setWidth_of_le (by decide)]
  exact hnew

theorem completesAmo_of_amoD {op : (n : Nat) → BitVec n → BitVec n → BitVec n} {new : Nat}
    (hx : s.xlen = .rv64) (halign : (s.getX rs1).toNat % 8 = 0)
    (hread : s.admits .read (s.getX rs1) 8 = true) (hwrite : s.admits .write (s.getX rs1) 8 = true)
    (hexec : exec i s = rv64Only i s (amoD op rd rs1 rs2 s))
    (hnew : (op 64 (s.load (s.getX rs1) 8) (s.getX rs2)).toNat % 2 ^ 64 = new % 2 ^ 64) :
    CompletesAmo i s rd (s.getX rs1) 8 (Int.bmod (s.memNat (s.getX rs1).toNat 8) (2 ^ 64)) new := by
  refine completesAmo_of_amo (by decide) halign hread hwrite (hexec.trans (rv64Only_of_rv64 _ hx)) ?_ hnew
  rw [← s.setWidth_signExtend_load _ (by decide) 64 (bits_le _), BitVec.setWidth_eq, BitVec.signExtend_eq, zextLoad]

end

/-! ### The operators on numbers (R189) -/

section
variable {n : Nat} (a b : BitVec n)

theorem toNat_addOp_mod : (addOp n a b).toNat % 2 ^ n = (a.toNat + b.toNat) % 2 ^ n := by
  rw [addOp, BitVec.toNat_add, Nat.mod_mod]

theorem toNat_minOp : (minOp n a b).toNat = if a.toInt < b.toInt then a.toNat else b.toNat := apply_ite ..

theorem toNat_maxOp : (maxOp n a b).toNat = if a.toInt > b.toInt then a.toNat else b.toNat := apply_ite ..

theorem toNat_minuOp : (minuOp n a b).toNat = if a.toNat < b.toNat then a.toNat else b.toNat := apply_ite ..

theorem toNat_maxuOp : (maxuOp n a b).toNat = if a.toNat > b.toNat then a.toNat else b.toNat := apply_ite ..

end

/-! ### The obligations -/

/-- Settles O27: five loads and, on RV64, two more, each with its widening. -/
theorem loadsX : Obligations.LoadsX := by
  intro s rd rs1 imm ea
  refine ⟨s.toNat_effAddr rs1 imm, fun h => ⟨?lb, ?lbu⟩, fun h => ⟨?lh, ?lhu⟩, fun h => ⟨?lw, fun hx => ?lwu⟩,
    fun h hx => ?ld, fun hx => ⟨trapsIllegal_of_rv64Only hx rfl, trapsIllegal_of_rv64Only hx rfl⟩⟩
  case lb => exact completesX_of_loadX h rfl (s.setWidth_signExtend_load ea (by decide) 8 (bits_le _))
  case lbu => exact completesX_of_loadX h rfl (s.setWidth_zextLoad_load ea (by decide) _)
  case lh => exact completesX_of_loadX h rfl (s.setWidth_signExtend_load ea (by decide) 16 (bits_le _))
  case lhu => exact completesX_of_loadX h rfl (s.setWidth_zextLoad_load ea (by decide) _)
  case lw => exact completesX_of_loadX h rfl (s.setWidth_signExtend_load ea (by decide) 32 (bits_le _))
  case lwu => exact completesX_of_loadX h (rv64Only_of_rv64 _ hx) (s.setWidth_zextLoad_load ea (by decide) _)
  case ld => exact completesX_of_loadX h (rv64Only_of_rv64 _ hx) (s.setWidth_zextLoad_load ea (by decide) _)

/-- Settles O28: the cell of the loaded bits. -/
theorem loadsF : Obligations.LoadsF := by
  intro s rd rs1 imm ea
  refine ⟨fun h => completes_of_setF_advance (withAccess_of_admitted _ (State.admits_iff.mp h)) ?flw,
    fun h => completes_of_setF_advance (withAccess_of_admitted _ (State.admits_iff.mp h)) ?fld⟩
  case flw => exact congrArg FCell.s (s.setWidth_load ea (by decide) 32)
  case fld => exact congrArg FCell.d ((BitVec.setWidth_eq _).symm.trans (s.setWidth_load ea (by decide) 64))

/-- Settles O29: the three stores and, on RV64, SD. -/
theorem storesX : Obligations.StoresX := by
  intro s rs1 rs2 imm ea
  exact ⟨fun h => completesStore_of_storeAt (by decide) h rfl rfl,
    fun h => completesStore_of_storeAt (by decide) h rfl rfl,
    fun h => completesStore_of_storeAt (by decide) h rfl rfl,
    fun h hx => completesStore_of_storeAt (by decide) h (rv64Only_of_rv64 _ hx) rfl,
    fun hx => trapsIllegal_of_rv64Only hx rfl⟩

/-- Settles O30: a single stands in the low bits of what is stored. -/
theorem storesF : Obligations.StoresF := by
  intro s rs1 rs2 imm ea
  refine ⟨fun h => completesStore_of_storeAt (by decide) h rfl (BitVec.toNat_setWidth_of_le (by decide)),
    fun h => completesStore_of_storeAt (by decide) h rfl rfl, fun b c => ⟨fun h => ?_, fun h => ?_⟩⟩
  · rw [State.getS, h]
  · rw [State.getD, h]

/-- Settles O31: each shape faults at the byte that is refused first. -/
theorem accessFaults : Obligations.AccessFaults := by
  intro s r rs1 imm a ea addr
  refine ⟨fun h => ⟨withAccess_of_refused _ h, withAccess_of_refused _ h⟩,
    fun h => ⟨withAccess_of_refused _ h, withAccess_of_refused _ h⟩,
    fun h => ⟨withAccess_of_refused _ h, withAccess_of_refused _ h,
      fun hx => (rv64Only_of_rv64 _ hx).trans (withAccess_of_refused _ h)⟩,
    fun h => ⟨withAccess_of_refused _ h, fun hx => (rv64Only_of_rv64 _ hx).trans (withAccess_of_refused _ h)⟩,
    fun h => withAccess_of_refused _ h, fun h => withAccess_of_refused _ h,
    fun h => ⟨withAccess_of_refused _ h, withAccess_of_refused _ h⟩,
    fun h => ⟨withAccess_of_refused _ h, fun hx => (rv64Only_of_rv64 _ hx).trans (withAccess_of_refused _ h)⟩,
    fun rd k => ⟨fun halign h => ?_, fun hx halign h => ?_⟩⟩
  · exact ⟨trapsAccess_of_amoW halign h rfl, trapsAccess_of_amoW halign h rfl, trapsAccess_of_amoW halign h rfl,
      trapsAccess_of_amoW halign h rfl, trapsAccess_of_amoW halign h rfl, trapsAccess_of_amoW halign h rfl,
      trapsAccess_of_amoW halign h rfl, trapsAccess_of_amoW halign h rfl⟩
  · exact ⟨trapsAccess_of_amoD hx halign h rfl, trapsAccess_of_amoD hx halign h rfl,
      trapsAccess_of_amoD hx halign h rfl, trapsAccess_of_amoD hx halign h rfl,
      trapsAccess_of_amoD hx halign h rfl, trapsAccess_of_amoD hx halign h rfl,
      trapsAccess_of_amoD hx halign h rfl, trapsAccess_of_amoD hx halign h rfl⟩

/-- Settles O32: the operators at 32 bits on the old word and the low word of rs2. -/
theorem amoWord : Obligations.AmoWord := by
  intro s rd rs1 rs2 addr old src halign hread hwrite
  have hold : ((s.load addr 4).setWidth 32).toNat = old := by
    rw [s.setWidth_load addr (by decide), BitVec.toNat_ofNat]
    exact Nat.mod_eq_of_lt (s.memNat_lt _ 4)
  have hsold : ((s.load addr 4).setWidth 32).toInt = Int.bmod old (2 ^ 32) :=
    s.toInt_setWidth_load addr (by decide) 32
  have hsrc : ((s.getX rs2).setWidth 32).toNat = src := s.toNat_setWidth_getX_low rs2
  have hssrc : ((s.getX rs2).setWidth 32).toInt = s.sxLow rs2 := rfl
  refine ⟨completesAmo_of_amoW halign hread hwrite rfl ?add, completesAmo_of_amoW halign hread hwrite rfl ?swap,
    completesAmo_of_amoW halign hread hwrite rfl ?and, completesAmo_of_amoW halign hread hwrite rfl ?or,
    completesAmo_of_amoW halign hread hwrite rfl ?min, completesAmo_of_amoW halign hread hwrite rfl ?max,
    completesAmo_of_amoW halign hread hwrite rfl ?minu, completesAmo_of_amoW halign hread hwrite rfl ?maxu⟩
  case add => rw [toNat_addOp_mod, hold, hsrc]
  case swap => rw [swapOp, hsrc]
  case and => rw [andOp, BitVec.toNat_and, hold, hsrc]
  case or => rw [orOp, BitVec.toNat_or, hold, hsrc]
  case min => rw [toNat_minOp, hold, hsrc, hsold, hssrc]
  case max => rw [toNat_maxOp, hold, hsrc, hsold, hssrc]
  case minu => rw [toNat_minuOp, hold, hsrc]
  case maxu => rw [toNat_maxuOp, hold, hsrc]

/-- Settles O33: the operators at 64 bits on the old doubleword and rs2. -/
theorem amoDouble : Obligations.AmoDouble := by
  intro s rd rs1 rs2 addr old src hx halign hread hwrite
  have hold : (s.load addr 8).toNat = old := s.toNat_load addr (by decide)
  have hsold : (s.load addr 8).toInt = Int.bmod old (2 ^ 64) := by
    rw [← s.toInt_setWidth_load addr (by decide) 64, BitVec.setWidth_eq]
  have hsrc : (s.getX rs2).toNat = src := rfl
  have hssrc : (s.getX rs2).toInt = s.sx rs2 := by rw [State.sx, hx]
  refine ⟨completesAmo_of_amoD hx halign hread hwrite rfl ?add, completesAmo_of_amoD hx halign hread hwrite rfl ?swap,
    completesAmo_of_amoD hx halign hread hwrite rfl ?and, completesAmo_of_amoD hx halign hread hwrite rfl ?or,
    completesAmo_of_amoD hx halign hread hwrite rfl ?min, completesAmo_of_amoD hx halign hread hwrite rfl ?max,
    completesAmo_of_amoD hx halign hread hwrite rfl ?minu, completesAmo_of_amoD hx halign hread hwrite rfl ?maxu⟩
  case add => rw [toNat_addOp_mod, hold, hsrc]
  case swap => rw [swapOp, hsrc]
  case and => rw [andOp, BitVec.toNat_and, hold, hsrc]
  case or => rw [orOp, BitVec.toNat_or, hold, hsrc]
  case min => rw [toNat_minOp, hold, hsrc, hsold, hssrc]
  case max => rw [toNat_maxOp, hold, hsrc, hsold, hssrc]
  case minu => rw [toNat_minuOp, hold, hsrc]
  case maxu => rw [toNat_maxuOp, hold, hsrc]

end Sys2Proof.Machine
end

section
/-! The checks that an instruction's word and the rounding mode decide (R112, R207, R312, R471). Where a class of
instructions is checked, each of its instructions is that check before anything else, so the trap is said once for the
check. -/
namespace Sys2Proof.Machine

section
variable {i : Instr} {s : State}

/-- A row of RV64 is checked for the variant first. -/
theorem exec_eq_rv64Only (h : i.rv64Row = true) (s : State) : ∃ k, exec i s = rv64Only i s k := by
  cases i with
  | ld | lwu | sd | amoaddD | amoswapD | amoandD | amoorD | amominD | amomaxD | amominuD | amomaxuD | addiw | slliw
  | srliw | sraiw | addw | subw | sllw | srlw | sraw | mulw | divw | divuw | remw | remuw | fcvtLS | fcvtLuS | fcvtLD
  | fcvtLuD | fcvtSL | fcvtSLu | fcvtDL | fcvtDLu | mftxD | mxtfD => exact ⟨_, rfl⟩
  | _ => exact absurd h Bool.false_ne_true

theorem exec_eq_shamtLegal {sh : BitVec 6} (h : i.shamt? = some sh) (s : State) :
    ∃ k, exec i s = shamtLegal i sh s k := by
  cases i with
  | slli | srli | srai =>
    obtain rfl := Option.some.inj h
    exact ⟨_, rfl⟩
  | _ => exact absurd h.symm (Option.some_ne_none _)

/-- A rounding-mode operand is resolved first, but for the variant of a row of RV64. -/
theorem exec_eq_withMode {rm : RmField} (h : i.rm? = some rm) (s : State) :
    ∃ k, exec i s = withMode i rm s k ∨ exec i s = rv64Only i s (withMode i rm s k) := by
  cases i with
  | faddS | fsubS | fmulS | fdivS | fsqrtS | faddD | fsubD | fmulD | fdivD | fsqrtD | fmaddS | fmsubS | fnmsubS
  | fnmaddS | fmaddD | fmsubD | fnmsubD | fnmaddD | fcvtWS | fcvtWuS | fcvtWD | fcvtWuD | fcvtSW | fcvtSWu | fcvtDW
  | fcvtDWu | fcvtSD | fcvtDS =>
    obtain rfl := Option.some.inj h
    exact ⟨_, .inl rfl⟩
  | fcvtLS | fcvtLuS | fcvtLD | fcvtLuD | fcvtSL | fcvtSLu | fcvtDL | fcvtDLu =>
    obtain rfl := Option.some.inj h
    exact ⟨_, .inr rfl⟩
  | _ => exact absurd h.symm (Option.some_ne_none _)

theorem trapsIllegal_of_rowMissing (h : i.rowExists s.xlen = false) : TrapsIllegal i s := by
  cases hx : s.xlen with
  | rv64 => simp [Instr.rowExists, hx] at h
  | rv32 =>
    have hrow : i.rv64Row = true := by simpa [Instr.rowExists, hx] using h
    obtain ⟨k, hk⟩ := exec_eq_rv64Only hrow s
    exact hk.trans (rv64Only_of_rv32 k hx)

theorem trapsIllegal_of_shamtTooLarge (h : i.shamtFits s.xlen = false) : TrapsIllegal i s := by
  unfold Instr.shamtFits at h
  split at h
  next sh hx hsh =>
    obtain ⟨k, hk⟩ := exec_eq_shamtLegal hsh s
    have hbit : sh.getLsbD 5 = true := Bool.not_eq_eq_eq_not.mp h
    rw [getLsbD_five_eq_decide] at hbit
    exact hk.trans (shamtLegal_of_bits_le k (hx ▸ of_decide_eq_true hbit))
  next => exact absurd h.symm Bool.false_ne_true
  next => exact absurd h.symm Bool.false_ne_true

theorem trapsIllegal_of_noMode {rm : RmField} (hrm : i.rm? = some rm) (h : resolveMode rm s.fsrRM = none) :
    TrapsIllegal i s := by
  obtain ⟨k, hk | hk⟩ := exec_eq_withMode hrm s
  · exact hk.trans (withMode_of_none k h)
  · rw [withMode_of_none k h] at hk
    cases hx : s.xlen with
    | rv32 => exact hk.trans (rv64Only_of_rv32 _ hx)
    | rv64 => exact hk.trans (rv64Only_of_rv64 _ hx)

end

/-- The fields 101 and 110, and 111 with one of 101 to 111 in fsr.RM, name no mode (R29, R312). -/
theorem resolveMode_eq_none {rm : RmField} {f : BitVec 3} (h : rm = 5 ∨ rm = 6 ∨ (rm = 7 ∧ 5 ≤ f)) :
    resolveMode rm f = none := by
  revert rm f
  decide

/-- Settles O35: each of the three ways to be ill-formed is caught by the check of its class. -/
theorem illFormedTraps : Obligations.IllFormedTraps := by
  intro s i h
  simp only [Instr.wellFormed, Bool.and_eq_false_iff] at h
  rcases h with (hrow | hsh) | hmode
  · exact trapsIllegal_of_rowMissing hrow
  · exact trapsIllegal_of_shamtTooLarge hsh
  · unfold Instr.rmNamesMode at hmode
    split at hmode
    next rm hrm =>
      refine trapsIllegal_of_noMode hrm (resolveMode_eq_none ?_)
      have hname : rm = 5 ∨ rm = 6 := by simpa [or_iff_not_imp_left] using hmode
      exact hname.imp_right .inl
    next => exact absurd hmode.symm Bool.false_ne_true

/-- Settles O36: a mode that is named by no field is caught where the mode is resolved. -/
theorem modeTraps : Obligations.ModeTraps := by
  refine ⟨by decide, fun s i rm hrm _ h => trapsIllegal_of_noMode hrm (resolveMode_eq_none h)⟩

end Sys2Proof.Machine
end

section
/-! Completion of the floating-point instructions, the moves and the counter reads: the shapes of `FpOps` once each,
then the instructions whose result needs no more (R320, R342, R390 to R411, R443 to R445). -/
namespace Sys2Proof.Machine

section
variable {i : Instr} {s : State} {rd : XReg} {rf rs1 rs2 rs3 : FReg} {rm : RmField} {m : RMode} {F : Fmt}

theorem completesF_of_writeF {r : FBits × FlagSet} (hexec : exec i s = writeF F rf r s) : CompletesF i s F rf r :=
  ⟨_, hexec, fFrame_setF_raiseFlags_advance s F rf r.1 r.2, s.cellF_setF_self F rf r.1,
    State.fsrFlags_raiseFlags _ r.2⟩

theorem completesF_of_withMode {r : RMode → FBits × FlagSet} (hm : resolveMode rm s.fsrRM = some m)
    (hexec : exec i s = withMode i rm s fun m => writeF F rf (r m) s) : CompletesF i s F rf (r m) :=
  completesF_of_writeF (hexec.trans (withMode_of_mode _ hm))

theorem xFlagFrame_setX_raiseFlags_advance (s : State) (rd : XReg) (v : Word) (e : FlagSet) :
    XFlagFrame rd s ((s.setX rd v).raiseFlags e).advance where
  x := ⟨State.getX_zero _, fun _ h => s.getX_setX_of_ne v h⟩
  f _ := rfl
  mode := State.fsrRM_raiseFlags _ e
  mem _ := rfl
  fetch := rfl
  rest := ⟨rfl, rfl, rfl, rfl, rfl⟩
  pc := State.toNat_pcVal_advance _

theorem completesXFlags_of_writeXFlags {v : Word} {e : FlagSet} (hexec : exec i s = writeXFlags rd v e s) :
    CompletesXFlags i s rd v e :=
  ⟨_, hexec, xFlagFrame_setX_raiseFlags_advance s rd v e, s.getX_setX_self rd v, State.fsrFlags_raiseFlags _ e⟩

theorem completesXFlags_of_fpToInt {I : IntFmt} (hm : resolveMode rm s.fsrRM = some m)
    (hexec : exec i s = fpToInt i F I rd rs1 rm s) :
    CompletesXFlags i s rd (placeInt s.xlen F I (toIntBits F I m (s.getF F rs1)).1)
      (toIntBits F I m (s.getF F rs1)).2 :=
  completesXFlags_of_writeXFlags (hexec.trans (withMode_of_mode _ hm))

theorem completesF_of_fpArith {op : Fmt → RMode → FBits → FBits → FBits × FlagSet}
    (hm : resolveMode rm s.fsrRM = some m) (hexec : exec i s = fpArith i F op rf rs1 rs2 rm s) :
    CompletesF i s F rf (op F m (s.getF F rs1) (s.getF F rs2)) :=
  completesF_of_withMode (r := fun m => op F m (s.getF F rs1) (s.getF F rs2)) hm hexec

theorem completesF_of_fpRoot (hm : resolveMode rm s.fsrRM = some m) (hexec : exec i s = fpRoot i F rf rs1 rm s) :
    CompletesF i s F rf (fsqrt F m (s.getF F rs1)) :=
  completesF_of_withMode (r := fun m => fsqrt F m (s.getF F rs1)) hm hexec

theorem completesF_of_fpFused {np na : Bool} (hm : resolveMode rm s.fsrRM = some m)
    (hexec : exec i s = fpFused i F np na rf rs1 rs2 rs3 rm s) :
    CompletesF i s F rf (fma F m np na (s.getF F rs1) (s.getF F rs2) (s.getF F rs3)) :=
  completesF_of_withMode (r := fun m => fma F m np na (s.getF F rs1) (s.getF F rs2) (s.getF F rs3)) hm hexec

theorem completesF_of_fpFromInt {I : IntFmt} {r : XReg} (hm : resolveMode rm s.fsrRM = some m)
    (hexec : exec i s = fpFromInt i F I rf r rm s) :
    CompletesF i s F rf (fromInteger F m (sourceInt I (s.getX r))) :=
  completesF_of_withMode (r := fun m => fromInteger F m (sourceInt I (s.getX r))) hm hexec

end

/-! ### Sign injection (R390) -/

theorem toNat_append_eq_add {n m : Nat} (x : BitVec n) (y : BitVec m) : (x ++ y).toNat = x.toNat * 2 ^ m + y.toNat := by
  rw [BitVec.toNat_append, ← Nat.shiftLeft_add_eq_or_of_lt y.isLt, Nat.shiftLeft_eq]

theorem toNat_extractLsb'_zero {n : Nat} (b : BitVec n) (k : Nat) : (b.extractLsb' 0 k).toNat = b.toNat % 2 ^ k := by
  rw [BitVec.extractLsb'_toNat, Nat.shiftRight_zero]

theorem extractLsb'_one_eq_ofBool {n : Nat} (b : BitVec n) (j : Nat) :
    b.extractLsb' j 1 = BitVec.ofBool (b.getLsbD j) := by
  apply BitVec.eq_of_getLsbD_eq
  intro k hk
  obtain rfl : k = 0 := by omega
  simp

theorem ofBool_not : ∀ b : Bool, BitVec.ofBool (!b) = ~~~BitVec.ofBool b := by
  decide

theorem toNat_withSign (F : Fmt) (neg : Bool) (b : FBits) :
    (withSign F neg b).toNat = neg.toNat * 2 ^ signPos F + b.toNat % 2 ^ signPos F :=
  toNat_patternOf (Nat.mod_lt _ (by positivity))

/-- A single with a sign is that sign above the bits below it. -/
theorem withSign_single (neg : Bool) (b : BitVec 32) :
    (withSign .s neg (b.setWidth 64)).setWidth 32 = BitVec.ofBool neg ++ b.extractLsb' 0 31 := by
  apply BitVec.eq_of_toNat_eq
  have hneg := neg.toNat_le
  rw [BitVec.toNat_setWidth, toNat_withSign, BitVec.toNat_setWidth_of_le (by decide), toNat_append_eq_add,
    toNat_extractLsb'_zero, BitVec.toNat_ofBool]
  simp only [signPos, expBits, fracBits]
  omega

theorem withSign_double (neg : Bool) (b : BitVec 64) :
    withSign .d neg b = (BitVec.ofBool neg ++ b.extractLsb' 0 63 : BitVec 64) := by
  apply BitVec.eq_of_toNat_eq
  rw [toNat_withSign, toNat_append_eq_add, toNat_extractLsb'_zero, BitVec.toNat_ofBool]
  rfl

theorem signOf_single (b : BitVec 32) : BitVec.ofBool (signOf .s (b.setWidth 64)) = b.extractLsb' 31 1 := by
  rw [extractLsb'_one_eq_ofBool, signOf, BitVec.getLsbD_setWidth]
  rfl

theorem signOf_double (b : BitVec 64) : BitVec.ofBool (signOf .d b) = b.extractLsb' 63 1 :=
  (extractLsb'_one_eq_ofBool b 63).symm

/-- Settles O43: each injection puts a sign on the bits below the sign of rs1. -/
theorem signInject : Obligations.SignInject := by
  intro s rd rs1 rs2 aS bS aD bD
  refine ⟨completes_of_setF_advance rfl ?s, completes_of_setF_advance rfl ?ns, completes_of_setF_advance rfl ?xs,
    completes_of_setF_advance rfl ?d, completes_of_setF_advance rfl ?nd, completes_of_setF_advance rfl ?xd⟩
  case s =>
    rw [← signOf_single, ← withSign_single]
    rfl
  case ns =>
    rw [← signOf_single, ← ofBool_not, ← withSign_single]
    rfl
  case xs =>
    rw [← signOf_single, ← signOf_single, BitVec.ofBool_xor_ofBool, ← withSign_single]
    rfl
  case d =>
    rw [← signOf_double, ← withSign_double]
    rfl
  case nd =>
    rw [← signOf_double, ← ofBool_not, ← withSign_double]
    rfl
  case xd =>
    rw [← signOf_double, ← signOf_double, BitVec.ofBool_xor_ofBool, ← withSign_double]
    rfl

/-! ### Moves, fsr and the counters (R395 to R400, R443 to R445) -/

/-- A 32-bit pattern in an x register is read as a signed number. -/
theorem setWidth_sext32 (xl : Xlen) (b : BitVec 32) : (sext32 b).setWidth xl.bits = BitVec.ofInt xl.bits b.toInt :=
  setWidth_ofInt (bits_le xl) _

/-- A word in an x register is read as its number modulo 2^XPRLEN. -/
theorem setWidth_eq_ofInt_toNat (w : Nat) (v : Word) : v.setWidth w = BitVec.ofInt w v.toNat := by
  rw [BitVec.ofInt_natCast, BitVec.ofNat_toNat]

/-- Settles O44: the patterns go over as they are. -/
theorem moves : Obligations.Moves := by
  intro s rx r rf f
  refine ⟨completesX_of_writeX rfl (setWidth_sext32 _ _), completes_of_setF_advance rfl rfl, fun hx => ⟨?_, ?_⟩,
    fun hx => ⟨trapsIllegal_of_rv64Only hx rfl, trapsIllegal_of_rv64Only hx rfl⟩⟩
  · exact completesX_of_writeX (rv64Only_of_rv64 _ hx) (setWidth_eq_ofInt_toNat _ _)
  · refine completes_of_setF_advance (rv64Only_of_rv64 _ hx) (congrArg FCell.d ?_)
    rw [State.ux, BitVec.ofNat_toNat, BitVec.setWidth_eq]

/-- Settles O47: each counter is written as it stands before its instruction retires. -/
theorem counters : Obligations.Counters := by
  intro s rd
  have hcount : ∀ c : Nat, (BitVec.ofNat 64 c).setWidth s.xlen.bits = BitVec.ofInt s.xlen.bits c := fun c => by
    rw [← BitVec.ofInt_natCast, setWidth_ofInt (bits_le _)]
  exact ⟨completesX_of_writeX rfl (hcount _), completesX_of_writeX rfl (hcount _), completesX_of_writeX rfl (hcount _)⟩

theorem State.toNat_fsrValue (s : State) : s.fsrValue.toNat = s.fsr.toNat % 2 ^ 8 := by
  rw [State.fsrValue, BitVec.toNat_setWidth_of_le (by decide), BitVec.toNat_setWidth]

section
variable (s : State) (v : BitVec 32)

theorem State.toNat_fsrValue_writeFsr : (s.writeFsr v).fsrValue.toNat = v.toNat % 2 ^ 8 := by
  rw [State.toNat_fsrValue, State.writeFsr, BitVec.toNat_setWidth_of_le (by decide), BitVec.toNat_setWidth,
    Nat.mod_mod]

theorem State.fsrRM_writeFsr : (s.writeFsr v).fsrRM = BitVec.ofNat 3 (v.toNat / 2 ^ 5) := by
  apply BitVec.eq_of_toNat_eq
  simp [State.fsrRM, State.writeFsr, Nat.shiftRight_eq_div_pow]
  omega

theorem State.fsrFlags_writeFsr : (s.writeFsr v).fsrFlags = BitVec.ofNat 5 v.toNat := by
  apply BitVec.eq_of_toNat_eq
  simp [State.fsrFlags, State.writeFsr]

end

/-- Settles O45: MTFSR reads the old fsr and the old rs1 before either is written. -/
theorem fsrAccess : Obligations.FsrAccess := by
  intro s rd rs1
  have hval : (s.fsrValue.setWidth 64).toNat = s.fsr.toNat % 2 ^ 8 := by
    rw [BitVec.toNat_setWidth_of_le (by decide), State.toNat_fsrValue]
  have hlow : ((s.getX rs1).setWidth 32).toNat = s.ux rs1 % 2 ^ 32 := BitVec.toNat_setWidth ..
  refine ⟨completesX_of_writeX rfl ?_, _, rfl, ?x, ?rd, ?value, ?mode, ?flags, fun _ => rfl, fun _ => rfl, rfl,
    ⟨rfl, rfl, rfl, rfl, rfl⟩, State.toNat_pcVal_advance _⟩
  · rw [← hval]
    exact setWidth_eq_ofInt_toNat _ _
  case x => exact ⟨State.getX_zero _, fun _ h => (s.writeFsr _).getX_setX_of_ne _ h⟩
  case rd =>
    rw [State.ux, State.advance_getX, State.getX_setX_self]
    split
    · rfl
    · have hlt : s.fsr.toNat % 2 ^ 8 < 2 ^ s.xlen.bits := (Nat.mod_lt _ (by decide)).trans_le
        (Nat.pow_le_pow_right two_pos (by cases s.xlen <;> decide))
      rw [toNat_wrap, hval]
      exact Nat.mod_eq_of_lt hlt
  case value =>
    refine (s.toNat_fsrValue_writeFsr _).trans ?_
    rw [hlow]
    exact Nat.mod_mod_of_dvd _ (by decide)
  case mode =>
    refine (s.fsrRM_writeFsr _).trans ?_
    apply BitVec.eq_of_toNat_eq
    rw [hlow, BitVec.toNat_ofNat, BitVec.toNat_ofNat]
    omega
  case flags =>
    refine (s.fsrFlags_writeFsr _).trans ?_
    apply BitVec.eq_of_toNat_eq
    rw [hlow, BitVec.toNat_ofNat, BitVec.toNat_ofNat]
    omega

end Sys2Proof.Machine

section
namespace Sys2Proof
open Machine

/-- Settles O37: four operations of two sources and the root, in both formats. -/
theorem fpArith : Obligations.FpArith := by
  intro s rd rs1 rs2 rm m hm
  exact ⟨completesF_of_fpArith hm rfl, completesF_of_fpArith hm rfl, completesF_of_fpArith hm rfl,
    completesF_of_fpArith hm rfl, completesF_of_fpArith hm rfl, completesF_of_fpArith hm rfl,
    completesF_of_fpArith hm rfl, completesF_of_fpArith hm rfl, completesF_of_fpRoot hm rfl,
    completesF_of_fpRoot hm rfl⟩

/-- Settles O38: one operation with the signs of its product and of its addend. -/
theorem fpFused : Obligations.FpFused := by
  intro s rd rs1 rs2 rs3 rm m hm
  exact ⟨completesF_of_fpFused hm rfl, completesF_of_fpFused hm rfl, completesF_of_fpFused hm rfl,
    completesF_of_fpFused hm rfl, completesF_of_fpFused hm rfl, completesF_of_fpFused hm rfl,
    completesF_of_fpFused hm rfl, completesF_of_fpFused hm rfl⟩

end Sys2Proof
end

end

section
/-! The values of patterns as rationals and their order (R310, R315, R327, R401): an exact sum is the sum of the
rationals, so comparing values is comparing what they denote. -/
namespace Sys2Proof.Machine

/-! ### Sums and signs of values -/

theorem pow_toNat_sub_mul_zpow {e g : Int} (h : g ≤ e) : (2 : Rat) ^ (e - g).toNat * 2 ^ g = 2 ^ e := by
  rw [← zpow_natCast, Int.toNat_of_nonneg (sub_nonneg.mpr h), ← zpow_add₀ two_ne_zero, sub_add_cancel]

theorem ratOf_not (neg : Bool) (k : Nat) (e : Int) : ratOf (!neg) k e = -ratOf neg k e := by
  cases neg <;> simp [ratOf, signedMag]

theorem ratOf_zero (neg : Bool) (e : Int) : ratOf neg 0 e = 0 := by
  cases neg <;> simp [ratOf, signedMag]

section
variable (n1 n2 : Bool) (m1 m2 : Nat) (e1 e2 : Int)

/-- The exact sum counts units of the smaller exponent. -/
theorem exactSum_eq :
    ((exactSum n1 m1 e1 n2 m2 e2).1 : Rat) * 2 ^ (exactSum n1 m1 e1 n2 m2 e2).2 = ratOf n1 m1 e1 + ratOf n2 m2 e2 := by
  simp only [exactSum, ratOf]
  push_cast
  rw [add_mul, mul_assoc, mul_assoc, pow_toNat_sub_mul_zpow (min_le_left e1 e2),
    pow_toNat_sub_mul_zpow (min_le_right e1 e2)]

theorem exactSum_eq_zero_iff : (exactSum n1 m1 e1 n2 m2 e2).1 = 0 ↔ ratOf n1 m1 e1 + ratOf n2 m2 e2 = 0 := by
  rw [← exactSum_eq, mul_eq_zero_iff_right (by positivity), Int.cast_eq_zero]

theorem exactSum_neg_iff : (exactSum n1 m1 e1 n2 m2 e2).1 < 0 ↔ ratOf n1 m1 e1 + ratOf n2 m2 e2 < 0 := by
  rw [← exactSum_eq, ← not_le, ← not_le, mul_nonneg_iff_of_pos_right (by positivity), Int.cast_nonneg_iff]

/-- Finite values are ordered as their rationals, by the sign of the exact difference. -/
theorem less_fin_fin :
    FVal.less (.fin n1 m1 e1) (.fin n2 m2 e2) = decide (ratOf n1 m1 e1 < ratOf n2 m2 e2) := by
  refine decide_eq_decide.mpr ?_
  rw [exactSum_neg_iff, ratOf_not, ← sub_eq_add_neg, sub_neg]

end

/-! ### Comparing patterns -/

section
variable {F : Fmt} {a b : FBits} {x y : Rat}

@[simp] theorem FVal.isNaN_nan (sig : Bool) : (FVal.nan sig).isNaN = true := rfl

@[simp] theorem FVal.isSignaling_nan (sig : Bool) : (FVal.nan sig).isSignaling = sig := rfl

theorem isNaN_of_denotes (h : denotes F a x) : (unpack F a).isNaN = false := by
  obtain ⟨-, _, _, _, hu, -⟩ := h
  rw [hu]
  rfl

theorem isNaN_of_inf {neg : Bool} (h : unpack F a = .inf neg) : (unpack F a).isNaN = false := by
  rw [h]
  rfl

theorem isSignaling_eq_true_iff : (unpack F a).isSignaling = true ↔ unpack F a = .nan true := by
  cases unpack F a <;> simp [FVal.isSignaling]

theorem isSignaling_eq_false_iff : (unpack F a).isSignaling = false ↔ unpack F a ≠ .nan true := by
  rw [← Bool.not_eq_true, isSignaling_eq_true_iff]

theorem isSignaling_of_isNaN_eq_false (h : (unpack F a).isNaN = false) : (unpack F a).isSignaling = false := by
  cases hu : unpack F a with
  | nan sig => exact absurd (h.symm.trans (congrArg FVal.isNaN hu)) Bool.false_ne_true
  | inf | fin => rfl

theorem less_of_denotes (ha : denotes F a x) (hb : denotes F b y) :
    (unpack F a).less (unpack F b) = decide (x < y) := by
  obtain ⟨-, _, _, _, hua, rfl⟩ := ha
  obtain ⟨-, _, _, _, hub, rfl⟩ := hb
  rw [hua, hub, less_fin_fin]

/-- A finite value is above −∞ and below +∞. -/
theorem less_inf_of_denotes {neg : Bool} (ha : denotes F a x) (hb : unpack F b = .inf neg) :
    (unpack F a).less (unpack F b) = !neg ∧ (unpack F b).less (unpack F a) = neg := by
  obtain ⟨-, _, _, _, hua, -⟩ := ha
  rw [hua, hb]
  exact ⟨rfl, rfl⟩

/-- The order of two values that are no NaN, when the first is below the second. -/
structure OrderedBelow (F : Fmt) (a b : FBits) : Prop where
  left : (unpack F a).isNaN = false
  right : (unpack F b).isNaN = false
  less : (unpack F a).less (unpack F b) = true
  not_less : (unpack F b).less (unpack F a) = false

theorem orderedBelow_of_valueBelow (h : ValueBelow F a b) : OrderedBelow F a b := by
  rcases h with ⟨ha, hb | ⟨y, hb⟩⟩ | ⟨⟨x, ha⟩, hb⟩ | ⟨x, y, ha, hb, hlt⟩
  · exact ⟨isNaN_of_inf ha, isNaN_of_inf hb, by rw [ha, hb]; rfl, by rw [ha, hb]; rfl⟩
  · obtain ⟨hba, hab⟩ := less_inf_of_denotes hb ha
    exact ⟨isNaN_of_inf ha, isNaN_of_denotes hb, hab, hba⟩
  · obtain ⟨hab, hba⟩ := less_inf_of_denotes ha hb
    exact ⟨isNaN_of_denotes ha, isNaN_of_inf hb, hab, hba⟩
  · exact ⟨isNaN_of_denotes ha, isNaN_of_denotes hb, (less_of_denotes ha hb).trans (decide_eq_true hlt),
      (less_of_denotes hb ha).trans (decide_eq_false hlt.not_gt)⟩

/-- Neither of two values that are no NaN is below the other. -/
structure OrderedEqual (F : Fmt) (a b : FBits) : Prop where
  left : (unpack F a).isNaN = false
  right : (unpack F b).isNaN = false
  not_less : (unpack F a).less (unpack F b) = false
  not_less' : (unpack F b).less (unpack F a) = false

theorem orderedEqual_of_valueEqual (h : ValueEqual F a b) : OrderedEqual F a b := by
  rcases h with ⟨n, ha, hb⟩ | ⟨x, ha, hb⟩
  · exact ⟨isNaN_of_inf ha, isNaN_of_inf hb, by rw [ha, hb]; exact Bool.and_not_self n,
      by rw [ha, hb]; exact Bool.and_not_self n⟩
  · exact ⟨isNaN_of_denotes ha, isNaN_of_denotes hb, (less_of_denotes ha hb).trans (decide_eq_false (lt_irrefl x)),
      (less_of_denotes hb ha).trans (decide_eq_false (lt_irrefl x))⟩

/-! ### The three comparisons (R401) -/

theorem fcompare_of_not_nan (ha : (unpack F a).isNaN = false) (hb : (unpack F b).isNaN = false) (c : FCmp) :
    fcompare F c a b = (c.holds (unpack F a) (unpack F b), flagNone) := by
  simp [fcompare, ha, hb]

theorem fcompare_of_nan (h : (unpack F a).isNaN = true ∨ (unpack F b).isNaN = true) :
    fcompare F .lt a b = (false, flagNV) ∧ fcompare F .le a b = (false, flagNV) ∧
      fcompare F .eq a b = (false, if unpack F a = .nan true ∨ unpack F b = .nan true then flagNV else flagNone) := by
  rw [← Bool.or_eq_true_iff] at h
  simp [fcompare, h, flagIf, isSignaling_eq_true_iff]

theorem holds_of_denotes (ha : denotes F a x) (hb : denotes F b y) :
    FCmp.eq.holds (unpack F a) (unpack F b) = decide (x = y) ∧
      FCmp.lt.holds (unpack F a) (unpack F b) = decide (x < y) ∧
      FCmp.le.holds (unpack F a) (unpack F b) = decide (x ≤ y) := by
  have hab := less_of_denotes ha hb
  have hba := less_of_denotes hb ha
  refine ⟨?_, hab, ?_⟩
  · rw [FCmp.holds, hab, hba, Bool.eq_iff_iff]
    simp [le_antisymm_iff (a := x), and_comm]
  · rw [FCmp.holds, hba, Bool.eq_iff_iff]
    simp

end

theorem completesXFlags_of_fpCompare {i : Instr} {s : State} {F : Fmt} {c : FCmp} {rd : XReg} {rs1 rs2 : FReg}
    (hexec : exec i s = fpCompare F c rd rs1 rs2 s) :
    CompletesXFlags i s rd (if (fcompare F c (s.getF F rs1) (s.getF F rs2)).1 then 1 else 0)
      (fcompare F c (s.getF F rs1) (s.getF F rs2)).2 :=
  completesXFlags_of_writeXFlags hexec

/-- Settles O46: the comparisons say what the order of the values says, and a NaN is taken out first. -/
theorem compares : Obligations.Compares := by
  refine ⟨fun s rd rs1 rs2 => ⟨completesXFlags_of_fpCompare rfl, completesXFlags_of_fpCompare rfl,
    completesXFlags_of_fpCompare rfl, completesXFlags_of_fpCompare rfl, completesXFlags_of_fpCompare rfl,
    completesXFlags_of_fpCompare rfl⟩, fun F a b => ⟨fun x y ha hb => ?finite, fun h => ?below, fun h => ?equal,
    fcompare_of_nan⟩⟩
  case finite =>
    obtain ⟨heq, hlt, hle⟩ := holds_of_denotes ha hb
    simp only [fcompare_of_not_nan (isNaN_of_denotes ha) (isNaN_of_denotes hb), heq, hlt, hle, and_self]
  case below =>
    obtain ⟨ha, hb, hlt, hgt⟩ := orderedBelow_of_valueBelow h
    simp [fcompare_of_not_nan, FCmp.holds, ha, hb, hlt, hgt]
  case equal =>
    obtain ⟨ha, hb, hlt, hgt⟩ := orderedEqual_of_valueEqual h
    simp [fcompare_of_not_nan, FCmp.holds, ha, hb, hlt, hgt]

/-! ### Minimum and maximum (R315, R327, R328) -/

section
variable {F : Fmt} {isMax : Bool} {a b : FBits}

theorem fminmax_of_not_nan (ha : (unpack F a).isNaN = false) (hb : (unpack F b).isNaN = false) :
    fminmax F isMax a b =
      if (unpack F a).less (unpack F b) then (if isMax then b else a, flagNone)
      else if (unpack F b).less (unpack F a) then (if isMax then a else b, flagNone)
      else if signOf F a = signOf F b then (a, flagNone)
      else (if Config.zeroPickFirst isMax F (signOf F a) then a else b, flagNone) := by
  simp [fminmax, ha, hb, isSignaling_of_isNaN_eq_false]

theorem fminmax_of_orderedBelow (h : OrderedBelow F a b) :
    fminmax F isMax a b = (if isMax then b else a, flagNone) ∧
      fminmax F isMax b a = (if isMax then b else a, flagNone) := by
  obtain ⟨ha, hb, hlt, hgt⟩ := h
  rw [fminmax_of_not_nan ha hb, fminmax_of_not_nan hb ha, hlt, hgt]
  exact ⟨rfl, rfl⟩

theorem fminmax_of_orderedEqual (h : OrderedEqual F a b) :
    (fminmax F isMax a b = (a, flagNone) ∨ fminmax F isMax a b = (b, flagNone)) ∧
      (signOf F a = signOf F b → fminmax F isMax a b = (a, flagNone)) := by
  obtain ⟨ha, hb, hlt, hgt⟩ := h
  have hfalse : ¬ false = true := Bool.false_ne_true
  rw [fminmax_of_not_nan ha hb, hlt, hgt, if_neg hfalse, if_neg hfalse]
  refine ⟨?_, fun hsign => if_pos hsign⟩
  split
  case isTrue => exact .inl rfl
  case isFalse =>
    split
    case isTrue => exact .inl rfl
    case isFalse => exact .inr rfl

end

end Sys2Proof.Machine

section
namespace Sys2Proof
open Machine

/-- Settles O39: NaNs are taken out first; of two values the order decides, and of two equal ones the signs. -/
theorem fpMinMax : Obligations.FpMinMax := by
  refine ⟨fun s rd rs1 rs2 => ⟨completesF_of_writeF rfl, completesF_of_writeF rfl, completesF_of_writeF rfl,
    completesF_of_writeF rfl⟩, fun F isMax a b => ⟨fun ha => ?first, fun ha hb => ?second, fun ha hb => ?quiet,
    fun ha hb => ?left, fun ha hb => ?right, fun h => ?below,
    fun h => fminmax_of_orderedEqual (orderedEqual_of_valueEqual h), rfl, rfl⟩⟩
  case first => simp [fminmax, ha]
  case second => simp [fminmax, isSignaling_eq_false_iff.mpr ha, hb]
  case quiet => simp [fminmax, ha, hb]
  case left => simp [fminmax, ha, hb, isSignaling_of_isNaN_eq_false hb]
  case right => simp [fminmax, ha, hb, isSignaling_of_isNaN_eq_false ha]
  case below =>
    have hbelow := orderedBelow_of_valueBelow h
    obtain ⟨hmin, hmin'⟩ := fminmax_of_orderedBelow (isMax := false) hbelow
    obtain ⟨hmax, hmax'⟩ := fminmax_of_orderedBelow (isMax := true) hbelow
    exact ⟨hmin, hmin', hmax, hmax'⟩

end Sys2Proof
end

end

section
/-! NaN operands, infinite operands and invalid operations (R314, R320, R321, R342). Each operation takes NaNs out
first, by `nanResult`; on infinities its value table answers by evaluation. -/
namespace Sys2Proof.Machine

section
variable {F : Fmt} {m : RMode} {a b c : FBits} {l l' : List FBits}

/-! ### The NaN table -/

theorem isNaN_of_eq_nan {sig : Bool} (h : unpack F a = .nan sig) : (unpack F a).isNaN = true := by
  rw [h]
  rfl

/-- The first signaling operand decides, whatever stands after it. -/
theorem nanResult_of_signaling (hl : ∀ b ∈ l, unpack F b ≠ .nan true) (ha : unpack F a = .nan true) :
    nanResult F (l ++ a :: l') = (quieted F a, flagNV) := by
  have hfind : l.find? (fun b => (unpack F b).isSignaling) = none :=
    List.find?_eq_none.mpr fun b hb => by rw [isSignaling_eq_false_iff.mpr (hl b hb)]; exact Bool.false_ne_true
  simp [nanResult, hfind, ha]

/-- Without a signaling operand the first quiet one decides. -/
theorem nanResult_of_quiet (hl : ∀ b ∈ l, (unpack F b).isNaN = false) (ha : unpack F a = .nan false)
    (hl' : ∀ b ∈ l', unpack F b ≠ .nan true) : nanResult F (l ++ a :: l') = (a, flagNone) := by
  have hfind : l.find? (fun b => (unpack F b).isNaN) = none :=
    List.find?_eq_none.mpr fun b hb => by rw [hl b hb]; exact Bool.false_ne_true
  have hsig : (l ++ a :: l').find? (fun b => (unpack F b).isSignaling) = none := by
    refine List.find?_eq_none.mpr fun b hb => ?_
    rw [isSignaling_eq_true_iff]
    rcases List.mem_append.mp hb with hb | hb
    · intro h
      exact absurd ((hl b hb).symm.trans (isNaN_of_eq_nan h)) Bool.false_ne_true
    · rcases List.mem_cons.mp hb with rfl | hb
      · rw [ha]
        nofun
      · exact hl' b hb
  simp only [nanResult, hsig, List.find?_append, hfind, Option.none_or, List.find?_cons, ha, FVal.isNaN_nan]

/-! ### Two sources -/

section
variable {op : Fmt → RMode → FBits → FBits → FBits × FlagSet}

/-- The four operations of two sources take NaNs out by one table. -/
theorem op_of_nan (hop : op = fadd ∨ op = fsub ∨ op = fmul ∨ op = fdiv)
    (h : (unpack F a).isNaN = true ∨ (unpack F b).isNaN = true) : op F m a b = nanResult F [a, b] := by
  rw [← Bool.or_eq_true_iff] at h
  rcases hop with rfl | rfl | rfl | rfl <;> exact if_pos h

theorem op_nanTable (hop : op = fadd ∨ op = fsub ∨ op = fmul ∨ op = fdiv) :
    (unpack F a = .nan true → op F m a b = (quieted F a, flagNV)) ∧
      (unpack F a ≠ .nan true → unpack F b = .nan true → op F m a b = (quieted F b, flagNV)) ∧
      (unpack F a = .nan false → unpack F b ≠ .nan true → op F m a b = (a, flagNone)) ∧
      ((unpack F a).isNaN = false → unpack F b = .nan false → op F m a b = (b, flagNone)) := by
  refine ⟨fun ha => ?_, fun ha hb => ?_, fun ha hb => ?_, fun ha hb => ?_⟩
  · rw [op_of_nan hop (.inl (isNaN_of_eq_nan ha))]
    exact nanResult_of_signaling (l := []) (by simp) ha
  · rw [op_of_nan hop (.inr (isNaN_of_eq_nan hb))]
    exact nanResult_of_signaling (l := [a]) (by simpa) hb
  · rw [op_of_nan hop (.inl (isNaN_of_eq_nan ha))]
    exact nanResult_of_quiet (l := []) (by simp) ha (by simpa)
  · rw [op_of_nan hop (.inr (isNaN_of_eq_nan hb))]
    exact nanResult_of_quiet (l := [a]) (by simpa) hb (by simp)

end

section
variable {va vb : FVal} (ha : unpack F a = va) (hb : unpack F b = vb) (hva : va.isNaN = false)
  (hvb : vb.isNaN = false)
include ha hb hva hvb

theorem or_isNaN_ne_true : ¬ ((unpack F a).isNaN || (unpack F b).isNaN) = true := by
  rw [ha, hb, hva, hvb]
  exact Bool.false_ne_true

theorem fadd_of_values : fadd F m a b = sumOf F m va vb := by
  rw [fadd, if_neg (or_isNaN_ne_true ha hb hva hvb), ha, hb]

theorem fsub_of_values : fsub F m a b = sumOf F m va vb.negate := by
  rw [fsub, if_neg (or_isNaN_ne_true ha hb hva hvb), ha, hb]

theorem fdiv_of_values : fdiv F m a b = quotientOf F m va vb := by
  rw [fdiv, if_neg (or_isNaN_ne_true ha hb hva hvb), ha, hb]

theorem fmul_of_product {v : FVal} (h : productOf va vb = some v) : fmul F m a b = deliver F m v := by
  rw [fmul, if_neg (or_isNaN_ne_true ha hb hva hvb), ha, hb, h]

theorem fmul_of_no_product (h : productOf va vb = none) : fmul F m a b = invalidResult F := by
  rw [fmul, if_neg (or_isNaN_ne_true ha hb hva hvb), ha, hb, h]

end

/-! ### Products with an infinity -/

theorem productOf_inf_inf (n n' : Bool) : productOf (.inf n) (.inf n') = some (.inf (n ^^ n')) := rfl

theorem productOf_inf_fin (n n' : Bool) {k : Nat} (hk : k ≠ 0) (e : Int) :
    productOf (.inf n) (.fin n' k e) = some (.inf (n ^^ n')) := if_neg hk

theorem productOf_fin_inf (n n' : Bool) {k : Nat} (hk : k ≠ 0) (e : Int) :
    productOf (.fin n' k e) (.inf n) = some (.inf (n' ^^ n)) := if_neg hk

/-- Zero times infinity, in either order. -/
def ZeroTimesInf (va vb : FVal) : Prop :=
  ∃ n n' e, va = .inf n ∧ vb = .fin n' 0 e ∨ vb = .inf n ∧ va = .fin n' 0 e

/-- Of values that are no NaN only zero times infinity has no product. -/
theorem productOf_eq_none_iff {va vb : FVal} (ha : va.isNaN = false) (hb : vb.isNaN = false) :
    productOf va vb = none ↔ ZeroTimesInf va vb := by
  cases va with
  | nan => exact absurd ha.symm Bool.false_ne_true
  | inf n =>
    cases vb with
    | nan => exact absurd hb.symm Bool.false_ne_true
    | inf n' => simp [productOf, ZeroTimesInf]
    | fin n' k e => simp [productOf, ZeroTimesInf]
  | fin n k e =>
    cases vb with
    | nan => exact absurd hb.symm Bool.false_ne_true
    | inf n' => simp [productOf, ZeroTimesInf]
    | fin n' k' e' => simp [productOf, ZeroTimesInf]

/-- A factor that is an infinity, with one that is not zero, makes the infinity of the signs' exclusive or. -/
theorem productOf_eq_inf {va vb : FVal} {n n' : Bool}
    (h : va = .inf n ∧ (vb = .inf n' ∨ ∃ k e, k ≠ 0 ∧ vb = .fin n' k e) ∨
      vb = .inf n ∧ (va = .inf n' ∨ ∃ k e, k ≠ 0 ∧ va = .fin n' k e)) :
    productOf va vb = some (.inf (n ^^ n')) ∧ va.isNaN = false ∧ vb.isNaN = false := by
  rcases h with ⟨rfl, rfl | ⟨k, e, hk, rfl⟩⟩ | ⟨rfl, rfl | ⟨k, e, hk, rfl⟩⟩
  · exact ⟨rfl, rfl, rfl⟩
  · exact ⟨productOf_inf_fin n n' hk e, rfl, rfl⟩
  · exact ⟨congrArg (some ∘ FVal.inf) (Bool.xor_comm n' n), rfl, rfl⟩
  · exact ⟨Bool.xor_comm n n' ▸ productOf_fin_inf n n' hk e, rfl, rfl⟩

/-! ### Fused multiply-add -/

section
variable {np na : Bool}

theorem fma_of_nan (h : (unpack F a).isNaN = true ∨ (unpack F b).isNaN = true ∨ (unpack F c).isNaN = true) :
    fma F m np na a b c =
      ((nanResult F [a, b, c]).1, (nanResult F [a, b, c]).2 |||
        flagIf (!(unpack F a).isNaN && !(unpack F b).isNaN && (productOf (unpack F a) (unpack F b)).isNone &&
          Config.fmaInvalidQnanNv) flagNV) := by
  rw [← or_assoc, ← Bool.or_eq_true_iff, ← Bool.or_eq_true_iff] at h
  exact if_pos h

/-- With a NaN factor the product says nothing of its own. -/
theorem fma_of_nan_factor (h : (unpack F a).isNaN = true ∨ (unpack F b).isNaN = true) :
    fma F m np na a b c = nanResult F [a, b, c] := by
  rw [fma_of_nan (by tauto)]
  rcases h with h | h <;> simp [h, flagIf, flagNone]

section
variable {va vb vc : FVal} (ha : unpack F a = va) (hb : unpack F b = vb) (hc : unpack F c = vc)
  (hva : va.isNaN = false) (hvb : vb.isNaN = false) (hvc : vc.isNaN = false)
include ha hb hc hva hvb hvc

theorem fma_of_product {v : FVal} (h : productOf va vb = some v) :
    fma F m np na a b c = sumOf F m (if np then v.negate else v) (if na then vc.negate else vc) := by
  simp [fma, ha, hb, hc, hva, hvb, hvc, h]

theorem fma_of_no_product (h : productOf va vb = none) : fma F m np na a b c = invalidResult F := by
  simp [fma, ha, hb, hc, hva, hvb, hvc, h]

end

/-- A sign applied to a value. -/
theorem ite_negate_inf (s n : Bool) : (if s then (FVal.inf n).negate else .inf n) = .inf (n ^^ s) := by
  cases s <;> cases n <;> rfl

theorem ite_negate_fin (s n : Bool) (k : Nat) (e : Int) :
    (if s then (FVal.fin n k e).negate else .fin n k e) = .fin (n ^^ s) k e := by
  cases s <;> cases n <;> rfl

theorem fma_nanTable :
    (unpack F a = .nan true → fma F m np na a b c = (quieted F a, flagNV)) ∧
      (unpack F a ≠ .nan true → unpack F b = .nan true → fma F m np na a b c = (quieted F b, flagNV)) ∧
      (unpack F a = .nan false → unpack F b ≠ .nan true → unpack F c ≠ .nan true →
        fma F m np na a b c = (a, flagNone)) ∧
      ((unpack F a).isNaN = false → unpack F b = .nan false → unpack F c ≠ .nan true →
        fma F m np na a b c = (b, flagNone)) := by
  refine ⟨fun ha => ?_, fun ha hb => ?_, fun ha hb hc => ?_, fun ha hb hc => ?_⟩
  · rw [fma_of_nan_factor (.inl (isNaN_of_eq_nan ha))]
    exact nanResult_of_signaling (l := []) (by simp) ha
  · rw [fma_of_nan_factor (.inr (isNaN_of_eq_nan hb))]
    exact nanResult_of_signaling (l := [a]) (by simpa) hb
  · rw [fma_of_nan_factor (.inl (isNaN_of_eq_nan ha))]
    exact nanResult_of_quiet (l := []) (by simp) ha (by simp [hb, hc])
  · rw [fma_of_nan_factor (.inr (isNaN_of_eq_nan hb))]
    exact nanResult_of_quiet (l := [a]) (by simpa) hb (by simpa)

/-- A signaling addend after factors that do not signal: NV is raised whether or not the product is invalid. -/
theorem fma_of_signaling_addend (ha : unpack F a ≠ .nan true) (hb : unpack F b ≠ .nan true)
    (hc : unpack F c = .nan true) : fma F m np na a b c = (quieted F c, flagNV) := by
  have hnan : nanResult F [a, b, c] = (quieted F c, flagNV) :=
    nanResult_of_signaling (l := [a, b]) (by simp [ha, hb]) hc
  rw [fma_of_nan (.inr (.inr (isNaN_of_eq_nan hc))), hnan]
  unfold flagIf
  split
  case isTrue => exact congrArg _ (BitVec.or_self)
  case isFalse => exact congrArg _ (BitVec.or_zero)

/-- A quiet addend is delivered; its NV is open where the product is zero times infinity. -/
theorem fma_of_quiet_addend (ha : (unpack F a).isNaN = false) (hb : (unpack F b).isNaN = false)
    (hc : unpack F c = .nan false) :
    fma F m np na a b c =
      (c, flagIf ((productOf (unpack F a) (unpack F b)).isNone && Config.fmaInvalidQnanNv) flagNV) := by
  have hnan : nanResult F [a, b, c] = (c, flagNone) :=
    nanResult_of_quiet (l := [a, b]) (by simp [ha, hb]) hc (by simp)
  rw [fma_of_nan (.inr (.inr (isNaN_of_eq_nan hc))), hnan, ha, hb]
  simp [flagNone]

end

/-! ### Roots -/

theorem fsqrt_of_nan {sig : Bool} (h : unpack F a = .nan sig) : fsqrt F m a = nanResult F [a] := by
  simp [fsqrt, h]

theorem fsqrt_of_inf {neg : Bool} (h : unpack F a = .inf neg) :
    fsqrt F m a = if neg then invalidResult F else (infinityOf F false, flagNone) := by
  simp [fsqrt, h]

theorem fsqrt_of_fin {neg : Bool} {k : Nat} {e : Int} (h : unpack F a = .fin neg k e) :
    fsqrt F m a =
      if k = 0 then (zeroOf F neg, flagNone) else if neg then invalidResult F else rootOf F m k e := by
  simp [fsqrt, h]

theorem ratOf_nonneg (k : Nat) (e : Int) : 0 ≤ ratOf false k e := by
  rw [ratOf_eq_signedRat]
  exact mul_nonneg k.cast_nonneg (by positivity)

theorem fsqrt_of_neg {x : Rat} (ha : denotes F a x) (hx : x < 0) : fsqrt F m a = (canonicalNaN F, flagNV) := by
  obtain ⟨-, neg, k, e, hu, rfl⟩ := ha
  have hneg : neg = true := by
    by_contra hneg
    rw [Bool.not_eq_true] at hneg
    exact absurd (ratOf_nonneg k e) (not_le.mpr (hneg ▸ hx))
  have hk : k ≠ 0 := by
    rintro rfl
    exact absurd (ratOf_zero neg e) hx.ne
  rw [fsqrt_of_fin hu, if_neg hk, if_pos hneg, invalidResult]

end

/-! ### The patterns spelled out -/

theorem zeroOf_patterns (n : Bool) :
    zeroOf .s n = (if n then 0x80000000 else 0) ∧ zeroOf .d n = (if n then 0x8000000000000000 else 0) := by
  cases n <;> decide

/-- Settles O59: the NaN tables of the operations, then their value tables on infinities. -/
theorem nanResults : Obligations.NaNResults := by
  refine ⟨⟨by decide, by decide, fun b => ⟨rfl, rfl⟩, fun n => ?patterns⟩,
    fun F m a b op hop => op_nanTable hop, fun F m a => ?root, fun F m a b n n' k e e' => ?infinite,
    fun F m np na a b c => ?fused⟩
  case patterns =>
    obtain ⟨hinfS, hinfD, -, -⟩ := infinityOf_largestOf_patterns n
    obtain ⟨hzeroS, hzeroD⟩ := zeroOf_patterns n
    exact ⟨hinfS, hinfD, hzeroS, hzeroD⟩
  case root =>
    refine ⟨fun h => ?_, fun h => ?_, fsqrt_of_inf, fsqrt_of_inf, fun x hx => fsqrt_of_neg hx⟩
    · rw [fsqrt_of_nan h]
      exact nanResult_of_signaling (l := []) (by simp) h
    · rw [fsqrt_of_nan h]
      exact nanResult_of_quiet (l := []) (by simp) h (by simp)
  case infinite =>
    refine ⟨fun ha hb => ⟨?_, ?_⟩, fun ha hb => ⟨?_, ?_⟩, fun ha hb => ⟨fadd_of_values ha hb rfl rfl,
      fadd_of_values hb ha rfl rfl, fsub_of_values ha hb rfl rfl, fsub_of_values hb ha rfl rfl,
      fdiv_of_values ha hb rfl rfl, ?_⟩, fun ha hb => ⟨fmul_of_no_product ha hb rfl rfl rfl,
      fmul_of_no_product hb ha rfl rfl rfl⟩, fun ha hb hk => ⟨?_, ?_⟩, fun ha hb =>
      ⟨fmul_of_product ha hb rfl rfl rfl, fdiv_of_values ha hb rfl rfl⟩, fun ha hb => fdiv_of_values ha hb rfl rfl⟩
    · exact (fadd_of_values ha hb rfl rfl).trans (if_neg (Bool.not_ne_self n).symm)
    · exact (fsub_of_values ha hb rfl rfl).trans (if_pos (Bool.not_not n).symm)
    · exact (fadd_of_values ha hb rfl rfl).trans (if_pos rfl)
    · exact (fsub_of_values ha hb rfl rfl).trans (if_neg (Bool.not_ne_self n).symm)
    · rw [Bool.xor_comm]
      exact fdiv_of_values hb ha rfl rfl
    · exact fmul_of_product ha hb rfl rfl (productOf_inf_fin n n' hk e)
    · rw [Bool.xor_comm]
      exact fmul_of_product hb ha rfl rfl (productOf_fin_inf n n' hk e)
  case fused =>
    intro res zeroTimesInf
    obtain ⟨hfirst, hsecond, hquiet, hquiet'⟩ := fma_nanTable (F := F) (m := m) (a := a) (b := b) (c := c) (np := np)
      (na := na)
    refine ⟨hfirst, hsecond, fma_of_signaling_addend, hquiet, hquiet', fun ha hb hc => ?addend, fun hc hzero => ?none,
      fun n n' h => ⟨fun nc hc => ?inf, fun nc k e hc => ?fin⟩, fun n n' nc k k' e e' ha hb hc => ?finite⟩
    case addend =>
      have hres : res = _ := fma_of_quiet_addend ha hb hc
      rw [hres]
      refine ⟨rfl, ?_, fun hnot => ?_⟩
      · unfold flagIf
        split
        case isTrue => exact .inr rfl
        case isFalse => exact .inl rfl
      · have hsome : (productOf (unpack F a) (unpack F b)).isNone = false := by
          rw [← Bool.not_eq_true, Option.isNone_iff_eq_none, productOf_eq_none_iff ha hb]
          exact hnot
        rw [hsome]
        rfl
    case none =>
      obtain ⟨hva, hvb⟩ : (unpack F a).isNaN = false ∧ (unpack F b).isNaN = false := by
        obtain ⟨n, n', e, ⟨ha, hb⟩ | ⟨hb, ha⟩⟩ := hzero <;> rw [ha, hb] <;> exact ⟨rfl, rfl⟩
      exact fma_of_no_product rfl rfl rfl hva hvb hc ((productOf_eq_none_iff hva hvb).mpr hzero)
    case inf =>
      obtain ⟨hproduct, ha, hb⟩ := productOf_eq_inf h
      have hres : res = _ := fma_of_product rfl rfl hc ha hb rfl hproduct
      rw [hres, ite_negate_inf, ite_negate_inf, sumOf]
      simp only [eq_comm (a := n ^^ n' ^^ np)]
      rfl
    case fin =>
      obtain ⟨hproduct, ha, hb⟩ := productOf_eq_inf h
      have hres : res = _ := fma_of_product rfl rfl hc ha hb rfl hproduct
      rw [hres, ite_negate_inf, ite_negate_fin, sumOf]
    case finite =>
      have hres : res = _ := fma_of_product ha hb hc rfl rfl rfl rfl
      rw [hres, ite_negate_fin, ite_negate_inf, sumOf]

end Sys2Proof.Machine
end

section
/-! Rounding as a function of the rational (R317, R319, R320): the rounded number and the inexact mark depend on the
magnitude alone, not on how it is written; a number of the format is its own rounding; and the patterns of the finite
numbers are counted by exponent and significand. -/
namespace Sys2Proof.Machine

/-! ### Rounding is unique -/

section
variable {m : RMode} {neg : Bool} {x : Rat} {k k' : Nat}

/-- No mode rounds to each of two neighbours. -/
theorem IsRounding.not_succ (h : IsRounding m neg x k) (h' : IsRounding m neg x (k + 1)) : False := by
  obtain ⟨hk, hm⟩ := h
  obtain ⟨hk', hm'⟩ := h'
  push_cast at hk' hm'
  rw [abs_lt] at hk hk'
  have htie : |(k : Rat) - x| ≤ 1 / 2 → |(k : Rat) + 1 - x| ≤ 1 / 2 →
      |(k : Rat) - x| = 1 / 2 ∧ |(k : Rat) + 1 - x| = 1 / 2 ∧ x = k + 1 / 2 := by
    intro h1 h2
    rw [abs_le] at h1 h2
    have hx : x = k + 1 / 2 := by linarith
    subst hx
    norm_num [abs_of_pos]
  cases m with
  | rne =>
    obtain ⟨h1, h2, -⟩ := htie hm.1 hm'.1
    have := hm.2 h1
    have := hm'.2 h2
    omega
  | rtz =>
    dsimp only at hm'
    linarith
  | rdn | rup =>
    cases neg <;> simp only [if_true, if_false, Bool.false_eq_true] at hm hm' <;> linarith
  | rmm =>
    obtain ⟨h1, -, hx⟩ := htie hm.1 hm'.1
    linarith [hm.2 h1]

theorem IsRounding.unique (h : IsRounding m neg x k) (h' : IsRounding m neg x k') : k = k' := by
  have hk := abs_lt.mp h.1
  have hk' := abs_lt.mp h'.1
  have hlt : (k : Rat) < (k' + 2 : Nat) := by push_cast; linarith
  have hlt' : (k' : Rat) < (k + 2 : Nat) := by push_cast; linarith
  have hlt : k < k' + 2 := by exact_mod_cast hlt
  have hlt' : k' < k + 2 := by exact_mod_cast hlt'
  rcases lt_trichotomy k k' with hlow | heq | hhigh
  · obtain rfl : k' = k + 1 := by omega
    exact (h.not_succ h').elim
  · exact heq
  · obtain rfl : k = k' + 1 := by omega
    exact (h'.not_succ h).elim

theorem isRounding_natCast (m : RMode) (neg : Bool) (n : Nat) : IsRounding m neg n n := by
  have hround := isRounding_roundUnits m neg n one_pos
  rw [Nat.cast_one, div_one] at hround
  rwa [hround.eq_of_natCast] at hround

end

/-! ### Rounding a magnitude, however it is written -/

section
variable {F : Fmt} {m : RMode} {neg : Bool} {num den num' den' : Nat} {e e' : Int}

theorem roundAt_congr (hden : 0 < den) (hden' : 0 < den')
    (h : (num : Rat) / den * 2 ^ e = (num' : Rat) / den' * 2 ^ e') (g : Int) :
    roundAt m neg num den e g = roundAt m neg num' den' e' g := by
  have hval : (roundAt m neg num den e g).1 = (roundAt m neg num' den' e' g).1 := by
    refine (isRounding_roundAt m neg num hden e g).unique ?_
    rw [h]
    exact isRounding_roundAt m neg num' hden' e' g
  refine Prod.ext hval ?_
  rw [roundAt_inexact m neg num hden, roundAt_inexact m neg num' hden', hval, h]

/-- A whole number of units is its own rounding. -/
theorem roundAt_exact {k : Nat} {g : Int} (hden : 0 < den) (h : (num : Rat) / den * 2 ^ e = k * 2 ^ g) :
    roundAt m neg num den e g = (k, false) := by
  have hval : (roundAt m neg num den e g).1 = k := by
    have hround := isRounding_roundAt m neg num hden e g
    rw [h, mul_div_cancel_right₀ _ (by positivity)] at hround
    exact hround.eq_of_natCast
  refine Prod.ext hval ?_
  rw [roundAt_inexact m neg num hden, hval, h]
  simp

theorem num_pos_of_magnitude (h : 0 < (num : Rat) / den * 2 ^ e) : 0 < num := by
  rcases Nat.eq_zero_or_pos num with rfl | hpos
  · simp at h
  · exact hpos

theorem roundTo_congr (hden : 0 < den) (hden' : 0 < den') (hpos : 0 < (num : Rat) / den * 2 ^ e)
    (h : (num : Rat) / den * 2 ^ e = (num' : Rat) / den' * 2 ^ e') :
    roundTo F m neg num den e = roundTo F m neg num' den' e' := by
  have hr := inBinade_magExponent (num_pos_of_magnitude hpos) hden e
  have hE' := magExponent_eq (num_pos_of_magnitude (h ▸ hpos)) hden' (h ▸ hr)
  rw [roundTo_eq rfl, roundTo_eq hE', roundAt_congr hden hden' h, roundAt_congr hden hden' h]

/-- `roundTo` of one way to write a number is that number rounded once. -/
theorem roundedOnce_roundTo {r : Rat} (hden : 0 < den) (hr : r ≠ 0) (h : (num : Rat) / den * 2 ^ e = |r|)
    (hneg : decide (r < 0) = neg) : RoundedOnce F m r (roundTo F m neg num den e) := by
  intro num' den' e' hden' h'
  rw [hneg]
  exact roundTo_congr hden hden' (h ▸ abs_pos.mpr hr) (h.trans h'.symm)

end

/-! ### Finite patterns counted by exponent and significand -/

/-- `b` is the pattern of `± k × 2^(emin+i−t)`: `k` has `p` bits, or `i` is zero and the number is subnormal or
zero. -/
structure IsFinitePattern (F : Fmt) (b : FBits) (neg : Bool) (i k : Nat) : Prop where
  pattern : b = patternOf F neg (i * 2 ^ fracBits F + k)
  lt_precision : k < 2 ^ precision F
  normal : i = 0 ∨ 2 ^ fracBits F ≤ k
  le_expMax : expMin F + i ≤ expMax F

section
variable {F : Fmt} {m : RMode} {b : FBits} {neg : Bool} {k : Nat} {e : Int} {x : Rat}

theorem toNat_signOf (h : fitsFormat F b) : (signOf F b).toNat = b.toNat / 2 ^ signPos F := by
  have hlt : b.toNat / 2 ^ signPos F < 2 := Nat.div_lt_of_lt_mul (by rwa [← pow_succ])
  rw [signOf, BitVec.getLsbD, Nat.testBit_eq_decide_div_mod_eq, Nat.mod_eq_of_lt hlt]
  interval_cases b.toNat / 2 ^ signPos F <;> rfl

/-- A pattern is its sign, its exponent field and its fraction field. -/
theorem eq_patternOf_fields (h : fitsFormat F b) :
    b = patternOf F (signOf F b) (expOf F b * 2 ^ fracBits F + fracOf F b) := by
  have hmag : expOf F b * 2 ^ fracBits F + fracOf F b = b.toNat % 2 ^ signPos F := by
    rw [expOf, fracOf, signPos, add_comm (expBits F), pow_add, Nat.mod_mul, mul_comm, add_comm]
  apply BitVec.eq_of_toNat_eq
  rw [hmag, toNat_patternOf (Nat.mod_lt _ (by positivity)), toNat_signOf h, Nat.div_add_mod']

theorem expOf_lt (F : Fmt) (b : FBits) : expOf F b < 2 ^ expBits F := Nat.mod_lt _ (by positivity)

theorem fracOf_lt (F : Fmt) (b : FBits) : fracOf F b < 2 ^ fracBits F := Nat.mod_lt _ (by positivity)

/-- The exponent field counts from `emin` on at 1; a subnormal number or a zero stands with the field 1. -/
theorem isFinitePattern_of_unpack (hfit : fitsFormat F b) (h : unpack F b = .fin neg k e) :
    ∃ i : Nat, e = expMin F + i - fracBits F ∧ neg = signOf F b ∧ IsFinitePattern F b neg i k := by
  have hexp := expOf_lt F b
  have hfrac := fracOf_lt F b
  have hb := eq_patternOf_fields hfit
  have hprec : 2 ^ precision F = 2 ^ fracBits F + 2 ^ fracBits F := by rw [precision, pow_succ, mul_two]
  have hbound := expBits_pattern_bound F
  have hrange := expMin_le_expMax F
  unfold unpack at h
  split at h
  next => split at h <;> cases h
  next hfinite =>
    split at h
    next hzero =>
      obtain ⟨rfl, rfl, rfl⟩ := FVal.fin.inj h
      rw [hzero] at hb
      exact ⟨0, by simp, rfl, hb, by omega, .inl rfl, by simpa using hrange⟩
    next hpos =>
      obtain ⟨rfl, rfl, rfl⟩ := FVal.fin.inj h
      obtain ⟨i, hi⟩ := Nat.exists_eq_succ_of_ne_zero hpos
      refine ⟨i, ?_, rfl, ?_, by omega, .inr (by omega), by omega⟩
      · rw [hi, expMin]
        push_cast
        ring
      · rw [hi, Nat.succ_mul, add_assoc] at hb
        exact hb

theorem exists_isFinitePattern_of_denotes (h : denotes F b x) :
    ∃ i k, IsFinitePattern F b (signOf F b) i k ∧ x = signedRat (signOf F b) (k * 2 ^ (expMin F + i - fracBits F)) := by
  obtain ⟨hfit, neg, k, e, hu, rfl⟩ := h
  obtain ⟨i, rfl, rfl, hfin⟩ := isFinitePattern_of_unpack hfit hu
  exact ⟨i, k, hfin, ratOf_eq_signedRat _ _ _⟩

/-! ### Numbers of the format are delivered as they are -/

theorem abs_signedRat (neg : Bool) (y : Rat) : |signedRat neg y| = |y| := by
  cases neg <;> simp [signedRat]

theorem signedRat_eq_zero_iff (neg : Bool) (y : Rat) : signedRat neg y = 0 ↔ y = 0 := by
  cases neg <;> simp [signedRat]

/-- The sign of a number that is not zero. -/
theorem decide_signedRat_neg {y : Rat} (hy : 0 < y) (neg : Bool) : decide (signedRat neg y < 0) = neg := by
  cases neg
  · exact decide_eq_false hy.not_gt
  · exact decide_eq_true (neg_lt_zero.mpr hy)

theorem magnitude_pos (hk : k ≠ 0) (e : Int) : 0 < (k : Rat) * 2 ^ e :=
  mul_pos (by exact_mod_cast Nat.pos_of_ne_zero hk) (by positivity)

theorem signOf_of_denotes (h : denotes F b x) (hx : x ≠ 0) : signOf F b = decide (x < 0) := by
  obtain ⟨i, k, -, rfl⟩ := exists_isFinitePattern_of_denotes h
  have hk : k ≠ 0 := by
    rintro rfl
    exact hx (by simp [signedRat])
  exact (decide_signedRat_neg (magnitude_pos hk _) _).symm

theorem not_expMax_lt_carriedExponent {E : Int} (hk : k < 2 ^ precision F) (hE : E ≤ expMax F) :
    ¬ expMax F < carriedExponent F E k := by
  rw [carriedExponent, if_neg hk.ne]
  exact not_lt.mpr hE

section
variable {num den : Nat}

/-- A number of the format is delivered with no flag: at `p` bits, or on the subnormal grid, it is whole. -/
theorem roundTo_of_isFinitePattern {i : Nat} (h : IsFinitePattern F b neg i k) (hk : k ≠ 0) (hden : 0 < den)
    (hmag : (num : Rat) / den * 2 ^ e = k * 2 ^ (expMin F + i - fracBits F)) :
    roundTo F m neg num den e = (b, flagNone) := by
  obtain ⟨rfl, hprec, hnormal, hmax⟩ := h
  have hpos : 0 < (num : Rat) / den * 2 ^ e := hmag ▸ magnitude_pos hk _
  have hnum := num_pos_of_magnitude hpos
  rcases le_or_gt (2 ^ fracBits F) k with hle | hlt
  · have hr : InBinade (expMin F + i) ((num : Rat) / den * 2 ^ e) := by
      have hbin := inBinade_carriedExponent (E := expMin F + i) hle hprec.le
      rwa [← hmag, carriedExponent, if_neg hprec.ne] at hbin
    rw [roundTo_eq (magExponent_eq hnum hden hr), roundAt_exact hden hmag,
      if_neg (not_expMax_lt_carriedExponent hprec hmax), if_pos (Int.le_add_of_nonneg_right i.cast_nonneg),
      add_sub_cancel_left, Int.toNat_natCast]
    rfl
  · obtain rfl : i = 0 := by omega
    rw [Nat.cast_zero, add_zero] at hmag
    have hr := inBinade_magExponent hnum hden e
    have hE : magExponent num den e < expMin F := by
      rw [← not_le, ← hr.zpow_le_iff, not_le, hmag, ← two_pow_fracBits_units F (expMin F)]
      exact mul_lt_mul_of_pos_right (by exact_mod_cast hlt) (by positivity)
    have hcarry := carriedExponent_le F (magExponent num den e)
      (roundAt m neg num den e (magExponent num den e - fracBits F)).1
    have hrange := expMin_le_expMax F
    rw [roundTo_eq rfl, roundAt_exact hden hmag, if_neg (by omega), if_neg (not_le.mpr hE), zero_mul, zero_add]
    simp [flagIf, flagNone]

/-- An exact result that a pattern denotes is that pattern, with no flag. -/
theorem RoundedOnce.eq_of_denotes {res : FBits × FlagSet} (h : RoundedOnce F m x res) (hb : denotes F b x)
    (hx : x ≠ 0) : res = (b, flagNone) := by
  have hmag : (x.num.natAbs : Rat) / x.den * 2 ^ (0 : Int) = |x| := by
    rw [zpow_zero, mul_one, Nat.cast_natAbs, ← abs_of_nonneg (a := (x.den : Rat)) x.den.cast_nonneg, Int.cast_abs,
      ← abs_div, Rat.num_div_den]
  rw [h _ _ _ x.den_pos hmag, ← signOf_of_denotes hb hx]
  obtain ⟨i, k, hfin, hval⟩ := exists_isFinitePattern_of_denotes hb
  have hk : k ≠ 0 := by
    rintro rfl
    exact hx (by simp [hval, signedRat])
  refine roundTo_of_isFinitePattern hfin hk x.den_pos (hmag.trans ?_)
  conv_lhs => rw [hval]
  rw [abs_signedRat, abs_of_pos (magnitude_pos hk _)]

end

/-! ### Values delivered after one rounding -/

theorem denotes_zeroOf (F : Fmt) (neg : Bool) : denotes F (zeroOf F neg) 0 := by
  have h := denotes_patternOf_subnormal (F := F) (neg := neg) (mag := 0) (by positivity)
  rwa [Nat.cast_zero, zero_mul, (signedRat_eq_zero_iff neg 0).mpr rfl] at h

theorem magnitude_eq_abs_ratOf (neg : Bool) (k : Nat) (e : Int) :
    (k : Rat) / (1 : Nat) * 2 ^ e = |ratOf neg k e| := by
  rw [ratOf_eq_signedRat, abs_signedRat, abs_of_nonneg (mul_nonneg k.cast_nonneg (by positivity)), Nat.cast_one,
    div_one]

theorem ratOf_eq_zero_iff (neg : Bool) (k : Nat) (e : Int) : ratOf neg k e = 0 ↔ k = 0 := by
  rw [ratOf_eq_signedRat, signedRat_eq_zero_iff, mul_eq_zero_iff_right (by positivity), Nat.cast_eq_zero]

theorem decide_ratOf_neg (hk : k ≠ 0) (neg : Bool) (e : Int) : decide (ratOf neg k e < 0) = neg := by
  rw [ratOf_eq_signedRat, decide_signedRat_neg (magnitude_pos hk e)]

theorem roundedOnce_ratOf (m : RMode) (hk : k ≠ 0) (neg : Bool) (e : Int) :
    RoundedOnce F m (ratOf neg k e) (roundTo F m neg k 1 e) :=
  roundedOnce_roundTo one_pos (mt (ratOf_eq_zero_iff neg k e).mp hk) (magnitude_eq_abs_ratOf neg k e)
    (decide_ratOf_neg hk neg e)

theorem deliver_fin (F : Fmt) (m : RMode) (neg : Bool) (k : Nat) (e : Int) :
    if ratOf neg k e = 0 then deliver F m (.fin neg k e) = (zeroOf F neg, flagNone)
    else RoundedOnce F m (ratOf neg k e) (deliver F m (.fin neg k e)) := by
  have hiff := ratOf_eq_zero_iff neg k e
  split
  case isTrue h => exact if_pos (hiff.mp h)
  case isFalse h =>
    rw [deliver, if_neg (mt hiff.mpr h)]
    exact roundedOnce_ratOf m (mt hiff.mpr h) neg e

end
end Sys2Proof.Machine
end

section
/-! Conversions (R316, R370, R380, R388, R389): between the formats, to integers and from integers. -/
namespace Sys2Proof.Machine

/-! ### Numbers with few bits are never rounded -/

section
variable {F : Fmt} {k : Nat} {e : Int}

/-- The binade of `k × 2^e` is that of `k` moved by `e`. -/
theorem inBinade_log2_mul_zpow (hk : 0 < k) (e : Int) : InBinade (Nat.log2 k + e) (k * 2 ^ e) :=
  (inBinade_mul_zpow_iff e).mpr (inBinade_log2 hk)

theorem log2_le_fracBits (hk : 0 < k) (hprec : k < 2 ^ precision F) : Nat.log2 k ≤ fracBits F :=
  Nat.le_of_lt_succ ((Nat.log2_lt hk.ne').mpr hprec)

/-- A number of at most `p` bits between the least and the greatest normal number is delivered as it is. -/
theorem roundTo_of_lt_precision (m : RMode) (neg : Bool) (hk : 0 < k) (hprec : k < 2 ^ precision F)
    (hmin : (2 : Rat) ^ expMin F ≤ k * 2 ^ e) (hmax : (k : Rat) * 2 ^ e < 2 ^ (expMax F + 1)) :
    denotes F (roundTo F m neg k 1 e).1 (ratOf neg k e) ∧ (roundTo F m neg k 1 e).2 = flagNone := by
  have hmag : (k : Rat) / (1 : Nat) * 2 ^ e = k * 2 ^ e := by rw [Nat.cast_one, div_one]
  have hr : InBinade (Nat.log2 k + e) ((k : Rat) / (1 : Nat) * 2 ^ e) := hmag ▸ inBinade_log2_mul_zpow hk e
  obtain ⟨j, hj⟩ := Nat.exists_eq_add_of_le (log2_le_fracBits hk hprec)
  have hunits : (k : Rat) / (1 : Nat) * 2 ^ e = (k * 2 ^ j : Nat) * 2 ^ ((Nat.log2 k + e : Int) - fracBits F) := by
    have hexp : e = j + ((Nat.log2 k + e : Int) - fracBits F) := by omega
    rw [hmag, Nat.cast_mul, mul_assoc, Nat.cast_pow, Nat.cast_ofNat, ← zpow_natCast, ← zpow_add₀ two_ne_zero, ← hexp]
  have hround := roundAt_exact (m := m) (neg := neg) one_pos hunits
  obtain ⟨hdenotes, hflags⟩ := roundTo_of_normal (m := m) (neg := neg) hk one_pos hr
    (by rwa [hround, ← hunits, hmag]) (by rwa [hmag])
  rw [hround] at hdenotes hflags
  rw [← hunits, hmag, ← ratOf_eq_signedRat] at hdenotes
  exact ⟨hdenotes, hflags⟩

end

/-! ### From single to double (R389) -/

section
variable {m : RMode} {a : FBits} {x : Rat}

theorem fcvtDFromS_of_fin {neg : Bool} {k : Nat} {e : Int} (h : unpack .s a = .fin neg k e) :
    fcvtDFromS m a = deliver .d m (.fin neg k e) := by
  simp [fcvtDFromS, h]

/-- Every single is a double. -/
theorem fcvtDFromS_of_denotes (h : denotes .s a x) :
    denotes .d (fcvtDFromS m a).1 x ∧ signOf .d (fcvtDFromS m a).1 = signOf .s a ∧
      (fcvtDFromS m a).2 = flagNone := by
  obtain ⟨hfit, neg, k, e, hu, rfl⟩ := id h
  obtain ⟨i, he, rfl, -, hprec, -, hmax⟩ := isFinitePattern_of_unpack hfit hu
  rw [fcvtDFromS_of_fin hu, deliver]
  split
  case isTrue hk =>
    rw [hk, ratOf_zero]
    exact ⟨denotes_zeroOf .d _, signOf_patternOf (by positivity), rfl⟩
  case isFalse hk =>
    have hpos : 0 < k := Nat.pos_of_ne_zero hk
    have hr := inBinade_log2_mul_zpow hpos e
    have hlog := log2_le_fracBits hpos hprec
    simp only [expMin, expMax, expBias, expBits, fracBits] at he hmax hlog
    obtain ⟨hdenotes, hflags⟩ := roundTo_of_lt_precision (F := .d) m (signOf .s a) hpos
      (hprec.trans_le (by decide)) ((hr.zpow_le_iff _).mpr (by simp only [expMin, expBias, expBits]; omega))
      (not_le.mp (mt (hr.zpow_le_iff _).mp (by simp only [expMax, expBias, expBits]; omega)))
    refine ⟨hdenotes, ?_, hflags⟩
    rw [signOf_of_denotes hdenotes (mt (ratOf_eq_zero_iff _ _ _).mp hk), decide_ratOf_neg hk]

end

/-! ### From double to single (R388) -/

theorem fcvtSFromD_of_denotes {m : RMode} {a : FBits} {x : Rat} (h : denotes .d a x) :
    if x = 0 then fcvtSFromD m a = (if signOf .d a then 0x80000000 else 0, flagNone)
    else RoundedOnce .s m x (fcvtSFromD m a) := by
  obtain ⟨hfit, neg, k, e, hu, rfl⟩ := h
  obtain ⟨-, -, rfl, -⟩ := isFinitePattern_of_unpack hfit hu
  have hdeliver : fcvtSFromD m a = deliver .s m (.fin (signOf .d a) k e) := by simp [fcvtSFromD, hu]
  rw [hdeliver, ← (zeroOf_patterns _).1]
  exact deliver_fin .s m _ k e

/-! ### NaNs between the formats (R316) -/

theorem or_append_zero {n k : Nat} (x : BitVec n) (y z : BitVec k) : (x ++ y) ||| (0#n ++ z) = x ++ (y ||| z) := by
  rw [BitVec.or_append, BitVec.or_zero]

/-- The fields of a double NaN from those of a single one. -/
theorem widenNaN_single (b : BitVec 32) :
    widenNaN (b.setWidth 64) =
      (b.extractLsb' 31 1 ++ 0x7FF#11 ++ ((b.extractLsb' 0 23 ++ 0#29) ||| 0x8000000000000#52) : BitVec 64) := by
  have hfrac : fracOf .s (b.setWidth 64) = (b.extractLsb' 0 23).toNat := by
    rw [fracOf, BitVec.toNat_setWidth_of_le (by decide), toNat_extractLsb'_zero]
    rfl
  have hlt := (b.extractLsb' 0 23).isLt
  have hfields : patternOf .d (signOf .s (b.setWidth 64)) (infMag .d + fracOf .s (b.setWidth 64) * 2 ^ 29) =
      (b.extractLsb' 31 1 ++ 0x7FF#11 ++ (b.extractLsb' 0 23 ++ 0#29) : BitVec 64) := by
    apply BitVec.eq_of_toNat_eq
    rw [hfrac, toNat_patternOf (by simp only [infMag, signPos, expBits, fracBits]; omega), ← BitVec.toNat_ofBool,
      signOf_single]
    simp only [toNat_append_eq_add, infMag, signPos, expBits, fracBits, BitVec.toNat_ofNat]
    omega
  have hquiet : BitVec.ofNat 64 (2 ^ (fracBits .d - 1)) = (0#12 ++ 0x8000000000000#52 : BitVec 64) := by decide
  rw [widenNaN, hfields, quieted, hquiet]
  exact or_append_zero (n := 12) (k := 52) _ _ _

/-- The fields of a single NaN from those of a double one. -/
theorem narrowNaN_double (b : BitVec 64) :
    narrowNaN b =
      (b.extractLsb' 63 1 ++ 0xFF#8 ++ (b.extractLsb' 29 23 ||| 0x400000#23) : BitVec 32).setWidth 64 := by
  have hfrac : fracOf .d b / 2 ^ 29 = (b.extractLsb' 29 23).toNat := by
    rw [fracOf, BitVec.extractLsb'_toNat, Nat.shiftRight_eq_div_pow, fracBits]
    omega
  have hlt := (b.extractLsb' 29 23).isLt
  have hfields : patternOf .s (signOf .d b) (infMag .s + fracOf .d b / 2 ^ 29) =
      (b.extractLsb' 63 1 ++ 0xFF#8 ++ b.extractLsb' 29 23 : BitVec 32).setWidth 64 := by
    apply BitVec.eq_of_toNat_eq
    rw [hfrac, toNat_patternOf (by simp only [infMag, signPos, expBits, fracBits]; omega), ← BitVec.toNat_ofBool,
      signOf_double, BitVec.toNat_setWidth_of_le (by decide)]
    simp only [toNat_append_eq_add, infMag, signPos, expBits, fracBits, BitVec.toNat_ofNat]
    omega
  have hquiet : BitVec.ofNat 64 (2 ^ (fracBits .s - 1)) = (0#9 ++ 0x400000#23 : BitVec 32).setWidth 64 := by decide
  rw [narrowNaN, hfields, quieted, hquiet, ← BitVec.setWidth_or]
  exact congrArg (BitVec.setWidth 64) (or_append_zero (n := 9) (k := 23) _ _ _)

/-- Settles O42: NaNs by their fields, infinities by the table, numbers by one rounding, of which a single that
becomes a double needs none. -/
theorem fpBetween : Obligations.FpBetween := by
  refine ⟨fun s rd rs1 rm m hm => ⟨completesF_of_withMode (r := fun m => fcvtSFromD m (s.getD rs1)) hm rfl,
    completesF_of_withMode (r := fun m => fcvtDFromS m ((s.getS rs1).setWidth 64)) hm rfl⟩, fun m sig =>
    ⟨fun b h => ?widen, fun a n h => ?infS, fun a n h => ?infD, fun a x => fcvtSFromD_of_denotes,
    fun a x => fcvtDFromS_of_denotes, fun b h => ?narrow⟩⟩
  case widen =>
    rw [← widenNaN_single]
    simp [fcvtDFromS, h, flagIf]
  case infS =>
    rw [← (infinityOf_largestOf_patterns n).1]
    simp [fcvtSFromD, h]
  case infD =>
    rw [← (infinityOf_largestOf_patterns n).2.1]
    simp [fcvtDFromS, h]
  case narrow =>
    rw [← narrowNaN_double]
    simp [fcvtSFromD, h, flagIf]

/-! ### To integers (R370) -/

section
variable {F : Fmt} {I : IntFmt} {m : RMode} {a : FBits} {x : Rat}

theorem toInteger_eq (m : RMode) (neg : Bool) (k : Nat) (e : Int) :
    toInteger m neg k e = (signedMag neg (roundAt m neg k 1 e 0).1, (roundAt m neg k 1 e 0).2) := rfl

theorem toIntBits_of_not_fin (h : ∀ neg k e, unpack F a ≠ .fin neg k e) : (toIntBits F I m a).2 = flagNV := by
  unfold toIntBits
  split
  next => rfl
  next => rfl
  next neg k e hu => exact absurd hu (h neg k e)

theorem toIntBits_of_fin {neg : Bool} {k : Nat} {e : Int} (h : unpack F a = .fin neg k e) :
    toIntBits F I m a =
      if (toInteger m neg k e).1 < intLo I ∨ intHi I < (toInteger m neg k e).1 then (Config.fcvtInvalid I F a, flagNV)
      else (BitVec.ofInt 64 (toInteger m neg k e).1, flagIf (toInteger m neg k e).2 flagNX) := by
  simp [toIntBits, h]

/-- A finite number becomes the integer that the mode rounds it to; the mark is set when that is another number. -/
theorem toInteger_of_isRounding {neg : Bool} {k n : Nat} {e : Int} (hx : ratOf neg k e = x)
    (h : IsRounding m (decide (x < 0)) |x| n) :
    (toInteger m neg k e).1 = (if x < 0 then -(n : Int) else n) ∧
      (toInteger m neg k e).2 = decide (((if x < 0 then -(n : Int) else n : Int) : Rat) ≠ x) := by
  have hmag := magnitude_eq_abs_ratOf neg k e
  rw [hx] at hmag
  by_cases hk : k = 0
  · obtain rfl : x = 0 := by rw [← hx, hk, ratOf_zero]
    have hn : n = 0 := by
      rw [abs_zero, ← Nat.cast_zero] at h
      exact h.eq_of_natCast
    have hround : roundAt m neg k 1 e 0 = (0, false) := roundAt_exact one_pos (by rw [hmag]; simp)
    rw [toInteger_eq, hround, hn]
    cases neg <;> simp [signedMag]
  · have hneg : decide (x < 0) = neg := hx ▸ decide_ratOf_neg hk neg e
    have hround := isRounding_roundAt m neg k one_pos e 0
    rw [hmag, zpow_zero, div_one, ← hneg] at hround
    have hval := hround.unique h
    have hinexact := roundAt_inexact m neg k one_pos e 0
    rw [hmag, zpow_zero, mul_one, ← hneg, hval] at hinexact
    rw [toInteger_eq, ← hneg, hval, hinexact]
    by_cases hlt : x < 0
    · simp [signedMag, hlt, abs_of_neg hlt, neg_eq_iff_eq_neg]
    · simp [signedMag, hlt, abs_of_nonneg (not_lt.mp hlt)]

theorem toIntBits_of_isRounding {k : Nat} (ha : denotes F a x) (h : IsRounding m (decide (x < 0)) |x| k) :
    let n : Int := if x < 0 then -k else k
    (intLo I ≤ n → n ≤ intHi I →
        toIntBits F I m a = (BitVec.ofInt 64 n, flagIf (decide ((n : Rat) ≠ x)) flagNX)) ∧
      (n < intLo I ∨ intHi I < n → (toIntBits F I m a).2 = flagNV) := by
  intro n
  obtain ⟨-, neg, j, e, hu, hx⟩ := ha
  obtain ⟨hval, hinexact⟩ := toInteger_of_isRounding hx h
  rw [toIntBits_of_fin hu, hval, hinexact]
  refine ⟨fun hlo hhi => if_neg (by omega), fun hout => ?_⟩
  rw [if_pos hout]

end

/-! ### Integers in x registers -/

section
variable {n : Int}

theorem toNat_ofInt_of_range {w : Nat} (hlo : 0 ≤ n) (hhi : n < 2 ^ w) : ((BitVec.ofInt w n).toNat : Int) = n := by
  have hmod : n % (2 ^ w : Nat) = n := Int.emod_eq_of_lt hlo (by exact_mod_cast hhi)
  rw [BitVec.toNat_ofInt, hmod, Int.toNat_of_nonneg hlo]

theorem toInt_placeInt_signed {I : IntFmt} (xl : Xlen) (F : Fmt) (hI : I = .w ∨ I = .l) (hlo : intLo I ≤ n)
    (hhi : n ≤ intHi I) : (placeInt xl F I (BitVec.ofInt 64 n)).toInt = n := by
  rcases hI with rfl | rfl <;> simp only [intLo, intHi] at hlo hhi
  · rw [placeInt, BitVec.toInt_signExtend_of_le (by decide), setWidth_ofInt (by decide),
      BitVec.toInt_ofInt_eq_self (by decide) (by omega) (by omega)]
  · exact BitVec.toInt_ofInt_eq_self (by decide) (by omega) (by omega)

theorem toNat_placeInt_wu_mod (xl : Xlen) (F : Fmt) (hlo : intLo .wu ≤ n) (hhi : n ≤ intHi .wu) :
    ((placeInt xl F .wu (BitVec.ofInt 64 n)).toNat : Int) % 2 ^ 32 = n := by
  simp only [intLo, intHi] at hlo hhi
  have hlow := toNat_ofInt_of_range (w := 32) hlo (by omega)
  cases xl with
  | rv32 =>
    simp only [placeInt, setWidth_ofInt (show 32 ≤ 64 by decide), BitVec.toNat_setWidth_of_le (show 32 ≤ 64 by decide)]
    omega
  | rv64 =>
    simp only [placeInt, setWidth_ofInt (show 32 ≤ 64 by decide), toNat_append_eq_add]
    omega

theorem toNat_placeInt_unsigned {I : IntFmt} {xl : Xlen} (F : Fmt) (hI : I = .wu ∧ xl = .rv32 ∨ I = .lu)
    (hlo : intLo I ≤ n) (hhi : n ≤ intHi I) : ((placeInt xl F I (BitVec.ofInt 64 n)).toNat : Int) = n := by
  rcases hI with ⟨rfl, rfl⟩ | rfl <;> simp only [intLo, intHi] at hlo hhi
  · rw [placeInt, BitVec.toNat_setWidth_of_le (by decide), setWidth_ofInt (by decide),
      toNat_ofInt_of_range hlo (by omega)]
  · exact toNat_ofInt_of_range hlo (by omega)

end

/-! ### From integers (R380) -/

theorem magnitude_eq_abs_intCast (n : Int) : (n.natAbs : Rat) / (1 : Nat) * 2 ^ (0 : Int) = |(n : Rat)| := by
  rw [Nat.cast_one, div_one, zpow_zero, mul_one, Nat.cast_natAbs, Int.cast_abs]

theorem fromInteger_of_ne_zero (F : Fmt) (m : RMode) {n : Int} (hn : n ≠ 0) :
    fromInteger F m n = roundTo F m (decide (n < 0)) n.natAbs 1 0 := if_neg hn

theorem roundedOnce_fromInteger (F : Fmt) (m : RMode) {n : Int} (hn : n ≠ 0) :
    RoundedOnce F m n (fromInteger F m n) := by
  rw [fromInteger_of_ne_zero F m hn]
  exact roundedOnce_roundTo one_pos (Int.cast_ne_zero.mpr hn) (magnitude_eq_abs_intCast n)
    (decide_eq_decide.mpr Int.cast_lt_zero)

theorem ratOf_sign_natAbs (n : Int) : ratOf (decide (n < 0)) n.natAbs 0 = n := by
  rw [ratOf, zpow_zero, mul_one, Int.cast_inj, signedMag]
  simp only [decide_eq_true_eq]
  split <;> omega

/-- An integer of at most 53 bits is a double. -/
theorem fromInteger_double (m : RMode) {n : Int} (hn : n.natAbs < 2 ^ precision .d) :
    denotes .d (fromInteger .d m n).1 n ∧ (fromInteger .d m n).2 = flagNone := by
  by_cases hzero : n = 0
  · rw [hzero, Int.cast_zero]
    exact ⟨denotes_zeroOf .d false, rfl⟩
  · have hpos : 0 < n.natAbs := Int.natAbs_pos.mpr hzero
    have hr := inBinade_log2_mul_zpow hpos 0
    have hlog := log2_le_fracBits hpos hn
    simp only [fracBits] at hlog
    have hround := roundTo_of_lt_precision (F := .d) (e := 0) m (decide (n < 0)) hpos hn
      ((hr.zpow_le_iff _).mpr (by simp only [expMin, expBias, expBits]; omega))
      (not_le.mp (mt (hr.zpow_le_iff _).mp (by simp only [expMax, expBias, expBits]; omega)))
    rwa [ratOf_sign_natAbs, ← fromInteger_of_ne_zero .d m hzero] at hround

/-- A pattern that denotes an integer of the range is converted to it with no flag. -/
theorem toIntBits_of_denotes_int {F : Fmt} {I : IntFmt} {a : FBits} {n : Int} (m : RMode) (ha : denotes F a n)
    (hlo : intLo I ≤ n) (hhi : n ≤ intHi I) : toIntBits F I m a = (BitVec.ofInt 64 n, flagNone) := by
  have hround : IsRounding m (decide ((n : Rat) < 0)) |(n : Rat)| n.natAbs := by
    have habs := magnitude_eq_abs_intCast n
    rw [Nat.cast_one, div_one, zpow_zero, mul_one] at habs
    rw [← habs]
    exact isRounding_natCast m _ _
  have hn : (if (n : Rat) < 0 then -(n.natAbs : Int) else n.natAbs) = n := by
    simp only [Int.cast_lt_zero]
    split <;> omega
  have hconv := (toIntBits_of_isRounding (I := I) ha hround).1
  rw [hn] at hconv
  rw [hconv hlo hhi]
  simp [flagIf]

/-- Settles O60: singles are doubles, 32-bit integers have few enough bits, and an integer is its own rounding. -/
theorem exactConversions : Obligations.ExactConversions := by
  refine fun m => ⟨fun a x h => ?_, fun n hlo hhi => ?_, fun F I a n h hlo hhi => toIntBits_of_denotes_int m h hlo hhi⟩
  · obtain ⟨hdenotes, -, hflags⟩ := fcvtDFromS_of_denotes (m := m) h
    exact ⟨hdenotes, hflags⟩
  · refine fromInteger_double m ?_
    simp only [precision, fracBits]
    omega

end Sys2Proof.Machine

section
namespace Sys2Proof
open Machine

/-- Settles O40: a finite number is rounded by the mode to its integer, which is compared with the range. -/
theorem fpToInt : Obligations.FpToInt := by
  refine ⟨fun s rd rs1 rm m hm => ⟨completesXFlags_of_fpToInt hm rfl, completesXFlags_of_fpToInt hm rfl,
    completesXFlags_of_fpToInt hm rfl, completesXFlags_of_fpToInt hm rfl, fun hx =>
    ⟨completesXFlags_of_fpToInt hm (rv64Only_of_rv64 _ hx), completesXFlags_of_fpToInt hm (rv64Only_of_rv64 _ hx),
      completesXFlags_of_fpToInt hm (rv64Only_of_rv64 _ hx), completesXFlags_of_fpToInt hm (rv64Only_of_rv64 _ hx)⟩⟩,
    fun F I m a h => toIntBits_of_not_fin h, fun F I m a x k ha h => toIntBits_of_isRounding ha h,
    ⟨rfl, rfl, rfl, rfl, rfl, rfl, rfl, rfl⟩, fun xl F I n hlo hhi => ⟨fun hI => toInt_placeInt_signed xl F hI hlo hhi,
    ?_, fun hI => toNat_placeInt_unsigned F hI hlo hhi⟩⟩
  rintro rfl
  exact toNat_placeInt_wu_mod xl F hlo hhi

/-- Settles O41: an integer other than zero is rounded once from itself. -/
theorem fpFromInt : Obligations.FpFromInt := by
  refine ⟨fun s rd rs1 rm m hm => ⟨completesF_of_fpFromInt hm rfl, completesF_of_fpFromInt hm rfl,
    completesF_of_fpFromInt hm rfl, completesF_of_fpFromInt hm rfl, fun hx =>
    ⟨completesF_of_fpFromInt hm (rv64Only_of_rv64 _ hx), completesF_of_fpFromInt hm (rv64Only_of_rv64 _ hx),
      completesF_of_fpFromInt hm (rv64Only_of_rv64 _ hx), completesF_of_fpFromInt hm (rv64Only_of_rv64 _ hx)⟩⟩,
    fun F m => rfl, fun F m n hn => roundedOnce_fromInteger F m hn, fun s r => ⟨rfl, ?_, fun hx => ⟨?_, rfl⟩⟩⟩
  · exact congrArg Nat.cast (BitVec.toNat_setWidth ..)
  · simp only [State.sx, hx]
    rfl

end Sys2Proof
end

end

section
/-! Arithmetic on finite operands (R317, R320, R321, R342): each operation delivers its exact rational, rounded once, or
a zero whose sign is said. -/
namespace Sys2Proof.Machine

/-- A result is the exact `r`: a zero with the given sign, or `r` rounded once. -/
def DeliversExact (F : Fmt) (m : RMode) (r : Rat) (zeroSign : Bool) (res : FBits × FlagSet) : Prop :=
  if r = 0 then res = (zeroOf F zeroSign, flagNone) else RoundedOnce F m r res

theorem DeliversExact.eq_of_denotes {F : Fmt} {m : RMode} {r : Rat} {zeroSign : Bool} {res : FBits × FlagSet}
    {b : FBits} {q : Rat} (h : DeliversExact F m r zeroSign res) (hb : denotes F b q) (hq : q ≠ 0) (hr : r = q) :
    res = (b, flagNone) := by
  subst hr
  rw [DeliversExact, if_neg hq] at h
  exact h.eq_of_denotes hb hq

theorem unpack_of_denotes {F : Fmt} {a : FBits} {x : Rat} (h : denotes F a x) :
    ∃ k e, unpack F a = .fin (signOf F a) k e ∧ ratOf (signOf F a) k e = x := by
  obtain ⟨hfit, neg, k, e, hu, hx⟩ := h
  obtain ⟨-, -, rfl, -⟩ := isFinitePattern_of_unpack hfit hu
  exact ⟨k, e, hu, hx⟩

/-! ### Values of sums, products and quotients -/

section
variable {F : Fmt} {m : RMode} {n1 n2 : Bool} {m1 m2 : Nat} {e1 e2 : Int}

theorem ratOf_mul : ratOf (n1 ^^ n2) (m1 * m2) (e1 + e2) = ratOf n1 m1 e1 * ratOf n2 m2 e2 := by
  simp only [ratOf_eq_signedRat, zpow_add₀ (two_ne_zero (α := Rat)), signedRat, Nat.cast_mul]
  cases n1 <;> cases n2 <;> simp <;> ring

theorem signedRat_ratOf (s n : Bool) (k : Nat) (e : Int) : signedRat s (ratOf n k e) = ratOf (n ^^ s) k e := by
  cases s <;> simp [signedRat, ratOf_not]

/-- Two addends of one sign whose sum is zero are zeros. -/
theorem eq_zero_of_ratOf_add_eq_zero (h : ratOf n1 m1 e1 + ratOf n1 m2 e2 = 0) : m1 = 0 ∧ m2 = 0 := by
  have hsum : ratOf false m1 e1 + ratOf false m2 e2 = 0 := by
    cases n1 with
    | false => exact h
    | true =>
      rw [← Bool.not_false, ratOf_not, ratOf_not, ← neg_add, neg_eq_zero] at h
      exact h
  have hzero := (add_eq_zero_iff_of_nonneg (ratOf_nonneg m1 e1) (ratOf_nonneg m2 e2)).mp hsum
  exact ⟨(ratOf_eq_zero_iff _ _ _).mp hzero.1, (ratOf_eq_zero_iff _ _ _).mp hzero.2⟩

theorem zeroSumSign_eq (m : RMode) (h : ratOf n1 m1 e1 + ratOf n2 m2 e2 = 0) :
    zeroSumSign m n1 n2 (m1 == 0 && m2 == 0) = exactZeroSign m n1 n2 := by
  have hmode : (m == .rdn) = decide (m = .rdn) := by cases m <;> rfl
  by_cases hsign : n1 = n2
  · subst hsign
    obtain ⟨rfl, rfl⟩ := eq_zero_of_ratOf_add_eq_zero h
    simp [zeroSumSign, exactZeroSign]
  · simp [zeroSumSign, exactZeroSign, hsign, hmode]

theorem sumOf_fin_fin : DeliversExact F m (ratOf n1 m1 e1 + ratOf n2 m2 e2) (exactZeroSign m n1 n2)
    (sumOf F m (.fin n1 m1 e1) (.fin n2 m2 e2)) := by
  have hiff := exactSum_eq_zero_iff n1 n2 m1 m2 e1 e2
  unfold DeliversExact
  simp only [sumOf]
  split
  case isTrue h => rw [if_pos (hiff.mpr h), zeroSumSign_eq m h]
  case isFalse h =>
    rw [if_neg (mt hiff.mp h)]
    refine roundedOnce_roundTo one_pos h ?_ (decide_eq_decide.mpr (exactSum_neg_iff ..).symm)
    rw [← exactSum_eq, abs_mul, abs_of_pos (a := (2 : Rat) ^ _) (by positivity), Nat.cast_one, div_one, Nat.cast_natAbs,
      Int.cast_abs]

theorem quotientOf_fin_fin (h2 : m2 ≠ 0) : DeliversExact F m (ratOf n1 m1 e1 / ratOf n2 m2 e2) (n1 ^^ n2)
    (quotientOf F m (.fin n1 m1 e1) (.fin n2 m2 e2)) := by
  have hy : ratOf n2 m2 e2 ≠ 0 := mt (ratOf_eq_zero_iff _ _ _).mp h2
  have hiff : ratOf n1 m1 e1 / ratOf n2 m2 e2 = 0 ↔ m1 = 0 := by
    rw [div_eq_zero_iff, or_iff_left hy, ratOf_eq_zero_iff]
  unfold DeliversExact
  simp only [quotientOf, if_neg h2]
  split
  case isTrue h => rw [if_pos (hiff.mp h)]
  case isFalse h =>
    have h1 := mt hiff.mpr h
    rw [if_neg h1]
    have hsigned : ratOf n1 m1 e1 / ratOf n2 m2 e2 = signedRat (n1 ^^ n2) ((m1 : Rat) / m2 * 2 ^ (e1 - e2)) := by
      rw [ratOf_eq_signedRat, ratOf_eq_signedRat, zpow_sub₀ two_ne_zero, div_mul_div_comm]
      cases n1 <;> cases n2 <;> simp [signedRat, neg_div, div_neg]
    have hpos : 0 < (m1 : Rat) / m2 * 2 ^ (e1 - e2) := by positivity
    refine roundedOnce_roundTo (Nat.pos_of_ne_zero h2) h ?_ ?_
    · rw [hsigned, abs_signedRat, abs_of_pos hpos]
    · rw [hsigned, decide_signedRat_neg hpos]

end

/-! ### The operations -/

section
variable {F : Fmt} (m : RMode) {a b c : FBits} {x y z : Rat} (ha : denotes F a x) (hb : denotes F b y)
include ha hb

theorem fadd_of_denotes :
    DeliversExact F m (x + y) (exactZeroSign m (signOf F a) (signOf F b)) (fadd F m a b) := by
  obtain ⟨k, e, hua, rfl⟩ := unpack_of_denotes ha
  obtain ⟨k', e', hub, rfl⟩ := unpack_of_denotes hb
  rw [fadd_of_values hua hub rfl rfl]
  exact sumOf_fin_fin

theorem fsub_of_denotes :
    DeliversExact F m (x - y) (exactZeroSign m (signOf F a) (!signOf F b)) (fsub F m a b) := by
  obtain ⟨k, e, hua, rfl⟩ := unpack_of_denotes ha
  obtain ⟨k', e', hub, rfl⟩ := unpack_of_denotes hb
  rw [fsub_of_values hua hub rfl rfl, sub_eq_add_neg, ← ratOf_not]
  exact sumOf_fin_fin

theorem fmul_of_denotes : DeliversExact F m (x * y) (signOf F a ^^ signOf F b) (fmul F m a b) := by
  obtain ⟨k, e, hua, rfl⟩ := unpack_of_denotes ha
  obtain ⟨k', e', hub, rfl⟩ := unpack_of_denotes hb
  rw [fmul_of_product hua hub rfl rfl rfl, ← ratOf_mul]
  exact deliver_fin F m _ _ _

theorem fdiv_of_denotes (hy : y ≠ 0) : DeliversExact F m (x / y) (signOf F a ^^ signOf F b) (fdiv F m a b) := by
  obtain ⟨k, e, hua, rfl⟩ := unpack_of_denotes ha
  obtain ⟨k', e', hub, rfl⟩ := unpack_of_denotes hb
  rw [fdiv_of_values hua hub rfl rfl]
  exact quotientOf_fin_fin (mt (ratOf_eq_zero_iff _ _ _).mpr hy)

theorem fdiv_of_denotes_zero (hy : y = 0) : fdiv F m a b =
    if x = 0 then (canonicalNaN F, flagNV) else (infinityOf F (signOf F a ^^ signOf F b), flagDZ) := by
  obtain ⟨k, e, hua, rfl⟩ := unpack_of_denotes ha
  obtain ⟨k', e', hub, rfl⟩ := unpack_of_denotes hb
  rw [fdiv_of_values hua hub rfl rfl, quotientOf, if_pos ((ratOf_eq_zero_iff _ _ _).mp hy)]
  simp only [ratOf_eq_zero_iff]
  rfl

theorem fma_of_denotes (hc : denotes F c z) (np na : Bool) :
    DeliversExact F m (signedRat np (x * y) + signedRat na z)
      (exactZeroSign m (signOf F a ^^ signOf F b ^^ np) (signOf F c ^^ na)) (fma F m np na a b c) := by
  obtain ⟨k, e, hua, rfl⟩ := unpack_of_denotes ha
  obtain ⟨k', e', hub, rfl⟩ := unpack_of_denotes hb
  obtain ⟨k'', e'', huc, rfl⟩ := unpack_of_denotes hc
  rw [fma_of_product hua hub huc rfl rfl rfl rfl, ite_negate_fin, ite_negate_fin, ← ratOf_mul, signedRat_ratOf,
    signedRat_ratOf]
  exact sumOf_fin_fin

end

/-! ### The integer root -/

theorem isqrtBits_spec {n : Nat} (k r : Nat) (hlo : r * r ≤ n) (hhi : n < (r + 2 ^ k) * (r + 2 ^ k)) :
    isqrtBits n k r * isqrtBits n k r ≤ n ∧ n < (isqrtBits n k r + 1) * (isqrtBits n k r + 1) := by
  induction k generalizing r with
  | zero => exact ⟨hlo, hhi⟩
  | succ k ih =>
    unfold isqrtBits
    split
    case isTrue h =>
      refine ih _ h ?_
      rwa [add_assoc, ← two_mul, ← pow_succ']
    case isFalse h => exact ih _ hlo (not_le.mp h)

/-- The root found bit by bit is the integer square root. -/
theorem isqrt_eq_sqrt (n : Nat) : isqrt n = Nat.sqrt n := by
  refine Nat.eq_sqrt.mpr (isqrtBits_spec _ 0 (Nat.zero_le n) ?_)
  rw [zero_add, ← pow_add]
  exact (Nat.lt_log2_self (n := n)).trans_le (Nat.pow_le_pow_right two_pos (by omega))

/-- Half units of the root of `n`: a remainder stands as one. -/
def rootHalves (n : Nat) : Nat := 2 * isqrt n + (if isqrt n * isqrt n = n then 0 else 1)

theorem two_mul_le_rootHalves_iff (n c : Nat) : 2 * c ≤ rootHalves n ↔ c * c ≤ n := by
  rw [← Nat.le_sqrt, ← isqrt_eq_sqrt, rootHalves]
  split <;> omega

theorem rootHalves_le_two_mul_iff (n c : Nat) : rootHalves n ≤ 2 * c ↔ n ≤ c * c := by
  have hlt : isqrt n < c ↔ n < c * c := by rw [isqrt_eq_sqrt, Nat.sqrt_lt]
  rw [rootHalves]
  split
  case isTrue h =>
    rw [add_zero, mul_le_mul_iff_right₀ two_pos, ← Nat.mul_self_le_mul_self_iff, h]
  case isFalse h =>
    have hne : n ≠ c * c := by
      rintro rfl
      rw [isqrt_eq_sqrt, Nat.sqrt_eq] at h
      exact h rfl
    omega

/-! ### Roots rounded -/

/-- `y` compares with the multiples of `w` as the square root of `x` does. -/
def ComparesAsRoot (x w y : Rat) : Prop :=
  ∀ c : Nat, (c * w ≤ y ↔ (c * w) ^ 2 ≤ x) ∧ (y ≤ c * w ↔ x ≤ (c * w) ^ 2)

section
variable {x w y : Rat} (h : ComparesAsRoot x w y)
include h

theorem ComparesAsRoot.le_iff (c : Nat) : c * w ≤ y ↔ (c * w) ^ 2 ≤ x := (h c).1

theorem ComparesAsRoot.ge_iff (c : Nat) : y ≤ c * w ↔ x ≤ (c * w) ^ 2 := (h c).2

theorem ComparesAsRoot.lt_iff (c : Nat) : c * w < y ↔ (c * w) ^ 2 < x := by
  rw [← not_le, h.ge_iff, not_le]

theorem ComparesAsRoot.gt_iff (c : Nat) : y < c * w ↔ x < (c * w) ^ 2 := by
  rw [← not_le, h.le_iff, not_le]

theorem ComparesAsRoot.eq_iff (c : Nat) : c * w = y ↔ (c * w) ^ 2 = x := by
  rw [le_antisymm_iff, le_antisymm_iff, h.le_iff, h.ge_iff]

/-- The root lies in the binade `E` when its square lies in the two binades from `2E` on. -/
theorem ComparesAsRoot.inBinade {j : Nat} {E : Int} (hw : (2 : Rat) ^ E = (2 ^ j : Nat) * w)
    (hlo : (2 : Rat) ^ (2 * E) ≤ x) (hhi : x < (2 : Rat) ^ (2 * E + 2)) : InBinade E y := by
  have hw' : (2 : Rat) ^ (E + 1) = (2 ^ (j + 1) : Nat) * w := by
    rw [zpow_add_one₀ two_ne_zero, hw, pow_succ]
    push_cast
    ring
  constructor
  · rw [hw, h.le_iff, ← hw, ← zpow_natCast, ← zpow_mul, mul_comm]
    exact hlo
  · rw [hw', h.gt_iff, ← hw', ← zpow_natCast, ← zpow_mul, mul_comm, mul_add]
    exact hhi

section
variable {z : Rat} (hw : 0 < w) (hy : y = 2 * z * w) (c : Nat)
include hw hy

theorem ComparesAsRoot.sq_le (hc : (c : Rat) ≤ 2 * z) : (c * w) ^ 2 ≤ x :=
  (h.le_iff c).mp (hy ▸ mul_le_mul_of_nonneg_right hc hw.le)

theorem ComparesAsRoot.le_sq (hc : 2 * z ≤ (c : Rat)) : x ≤ (c * w) ^ 2 :=
  (h.ge_iff c).mp (hy ▸ mul_le_mul_of_nonneg_right hc hw.le)

theorem ComparesAsRoot.sq_lt (hc : (c : Rat) < 2 * z) : (c * w) ^ 2 < x :=
  (h.lt_iff c).mp (hy ▸ mul_lt_mul_of_pos_right hc hw)

theorem ComparesAsRoot.lt_sq (hc : 2 * z < (c : Rat)) : x < (c * w) ^ 2 :=
  (h.gt_iff c).mp (hy ▸ mul_lt_mul_of_pos_right hc hw)

end

/-- Rounded to units of `2w`, such a `y` rounds as the root does, when the root is no odd multiple of `w`. -/
theorem ComparesAsRoot.isRootRounding {m : RMode} {j : Nat} (hw : 0 < w)
    (hround : IsRounding m false (y / (2 * w)) (j + 1))
    (hodd : ∀ c : Nat, c = 2 * j + 1 ∨ c = 2 * j + 3 → (c * w) ^ 2 ≠ x) : IsRootRounding m x (2 * w) (j + 1) := by
  generalize hz : y / (2 * w) = z at hround
  have hy : y = 2 * z * w := by
    rw [← hz]
    field_simp
  obtain ⟨hnear, hmode⟩ := hround
  rw [abs_lt] at hnear
  have hlow : (((j + 1 : Nat) : Rat) - 1 / 2) * (2 * w) = (2 * j + 1 : Nat) * w := by push_cast; ring
  have hhigh : (((j + 1 : Nat) : Rat) + 1 / 2) * (2 * w) = (2 * j + 3 : Nat) * w := by push_cast; ring
  have hself : ((j + 1 : Nat) : Rat) * (2 * w) = (2 * j + 2 : Nat) * w := by push_cast; ring
  have hsucc : (((j + 1 : Nat) : Rat) + 1) * (2 * w) = (2 * j + 4 : Nat) * w := by push_cast; ring
  have hpred : (((j + 1 : Nat) : Rat) - 1) * (2 * w) = (2 * j : Nat) * w := by push_cast; ring
  have hnearest : |((j + 1 : Nat) : Rat) - z| ≤ 1 / 2 → IsRootRounding .rne x (2 * w) (j + 1) := fun hdist => by
    rw [abs_le] at hdist
    push_cast at hdist
    rw [IsRootRounding, hlow, hhigh]
    refine ⟨Nat.le_add_left 1 j, lt_of_le_of_ne (h.sq_le hw hy _ ?_) (hodd _ (.inl rfl)),
      lt_of_le_of_ne (h.le_sq hw hy _ ?_) (hodd _ (.inr rfl)).symm⟩ <;> push_cast <;> linarith
  push_cast at hnear
  cases m with
  | rne | rmm => exact hnearest hmode.1
  | rtz | rdn =>
    have hle : ((j + 1 : Nat) : Rat) ≤ z := hmode
    rw [IsRootRounding, hself, hsucc]
    push_cast at hle
    exact ⟨h.sq_le hw hy _ (by push_cast; linarith), h.lt_sq hw hy _ (by push_cast; linarith)⟩
  | rup =>
    have hle : z ≤ ((j + 1 : Nat) : Rat) := hmode
    rw [IsRootRounding, hself, hpred]
    push_cast at hle
    exact ⟨Nat.le_add_left 1 j, h.sq_lt hw hy _ (by push_cast; linarith), h.le_sq hw hy _ (by push_cast; linarith)⟩

end

/-- The half units of the root compare, at every finer or equal scale `w`, as the root of the scaled `n` does. -/
theorem comparesAsRoot_rootHalves (n : Nat) {h g : Int} (hg : h ≤ g) :
    ComparesAsRoot (n * 2 ^ (2 * h)) (2 ^ g) (rootHalves n * 2 ^ (h - 1)) := by
  intro c
  obtain ⟨j, rfl⟩ := Int.le.dest hg
  have hunit : (0 : Rat) < 2 ^ (h - 1) := by positivity
  have hsq : (0 : Rat) < 2 ^ (2 * h) := by positivity
  have hc : (c : Rat) * 2 ^ (h + j) = (2 * (c * 2 ^ j) : Nat) * 2 ^ (h - 1) := by
    rw [zpow_add₀ two_ne_zero, zpow_sub_one₀ two_ne_zero, zpow_natCast]
    push_cast
    ring
  have hc2 : ((c : Rat) * 2 ^ (h + j)) ^ 2 = (c * 2 ^ j * (c * 2 ^ j) : Nat) * 2 ^ (2 * h) := by
    rw [zpow_add₀ two_ne_zero, zpow_natCast, mul_comm 2 h, zpow_mul, zpow_two]
    push_cast
    ring
  rw [hc2, hc, mul_le_mul_iff_left₀ hunit, mul_le_mul_iff_left₀ hunit, mul_le_mul_iff_left₀ hsq,
    mul_le_mul_iff_left₀ hsq, Nat.cast_le, Nat.cast_le, Nat.cast_le, Nat.cast_le]
  exact ⟨two_mul_le_rootHalves_iff n _, rootHalves_le_two_mul_iff n _⟩

/-- The square of an odd number of `p` bits or more, at any scale, has too many bits for a number of the format. -/
theorem odd_sq_mul_zpow_ne {F : Fmt} {k c : Nat} {e f : Int} (hk : k ≠ 0) (hprec : k < 2 ^ precision F)
    (hc : 2 ^ fracBits F ≤ c) (hodd : c % 2 = 1) : (c : Rat) ^ 2 * 2 ^ f ≠ k * 2 ^ e := by
  intro heq
  have hdvd : c ^ 2 ∣ k := by
    rcases le_total f e with hle | hle
    · rw [← pow_toNat_sub_mul_zpow hle, ← mul_assoc] at heq
      have hnat := mul_right_cancel₀ (by positivity) heq
      have hcop : Nat.Coprime (c ^ 2) (2 ^ (e - f).toNat) :=
        Nat.Coprime.pow _ _ (Nat.coprime_two_right.mpr (Nat.odd_iff.mpr hodd))
      exact hcop.dvd_of_dvd_mul_right (Dvd.intro 1 (by rw [mul_one]; exact_mod_cast hnat))
    · rw [← pow_toNat_sub_mul_zpow hle, ← mul_assoc] at heq
      have hnat := mul_right_cancel₀ (by positivity) heq
      exact Dvd.intro _ (by exact_mod_cast hnat)
  have hle := Nat.le_of_dvd (Nat.pos_of_ne_zero hk) hdvd
  have htwo : 2 ≤ 2 ^ fracBits F := by cases F <;> decide
  have : 2 ^ precision F ≤ c ^ 2 := by
    rw [precision, pow_succ, sq]
    exact Nat.mul_le_mul hc (htwo.trans hc)
  omega

/-- The even scale of the operand of a root, and its half. -/
theorem rootOf_eq (F : Fmt) (m : RMode) (k : Nat) (e : Int) :
    ∃ (s : Nat) (h : Int), 2 * (precision F + 2) ≤ s ∧ e - s = 2 * h ∧
      rootOf F m k e = roundTo F m false (rootHalves (k * 2 ^ s)) 1 (h - 1) := by
  refine ⟨2 * (precision F + 2) + (e % 2).toNat, _, Nat.le_add_right _ _, ?_, rfl⟩
  omega

/-- A scaled operand at the scale of its root. -/
theorem scaled_operand {s : Nat} {h e : Int} (hs : e - s = 2 * h) (k : Nat) :
    ((k * 2 ^ s : Nat) : Rat) * 2 ^ (2 * h) = k * 2 ^ e := by
  rw [← hs, Nat.cast_mul, mul_assoc, Nat.cast_pow, Nat.cast_ofNat, ← zpow_natCast, ← zpow_add₀ two_ne_zero,
    add_sub_cancel]

theorem unpack_of_denotes_pos {F : Fmt} {a : FBits} {x : Rat} (ha : denotes F a x) (hx : 0 < x) :
    ∃ k e, k ≠ 0 ∧ unpack F a = .fin false k e ∧ x = k * 2 ^ e := by
  obtain ⟨k, e, hu, hval⟩ := unpack_of_denotes ha
  have hk : k ≠ 0 := by
    rintro rfl
    exact hx.ne ((ratOf_zero _ e).symm.trans hval)
  have hsign : signOf F a = false := by rw [← decide_ratOf_neg hk (signOf F a) e, hval, decide_eq_false hx.not_gt]
  rw [hsign] at hu hval
  exact ⟨k, e, hk, hu, by rw [← hval, ratOf_eq_signedRat]; rfl⟩

theorem fsqrt_of_pos {F : Fmt} {m : RMode} {a : FBits} {k : Nat} {e : Int} (hu : unpack F a = .fin false k e)
    (hk : k ≠ 0) : fsqrt F m a = rootOf F m k e := by
  rw [fsqrt_of_fin hu, if_neg hk]
  rfl

/-- The exact root, where the format has it, is delivered as it is. -/
theorem fsqrt_of_sq {F : Fmt} (m : RMode) {a r : FBits} {x q : Rat} (ha : denotes F a x) (hr : denotes F r q)
    (hq : 0 < q) (hsq : q * q = x) : fsqrt F m a = (r, flagNone) := by
  obtain ⟨k, e, hk, hu, hx⟩ := unpack_of_denotes_pos ha (hsq ▸ mul_pos hq hq)
  obtain ⟨s, h, -, hs, hroot⟩ := rootOf_eq F m k e
  have hscaled : (q / 2 ^ h) * (q / 2 ^ h) = (k * 2 ^ s : Nat) := by
    rw [div_mul_div_comm, hsq, hx, ← scaled_operand hs, two_mul, zpow_add₀ two_ne_zero,
      mul_div_cancel_right₀ _ (by positivity)]
  obtain ⟨c, hc⟩ := Rat.isSquare_natCast_iff.mp ⟨_, hscaled.symm⟩
  have hroot_c : q / 2 ^ h = c := by
    rw [hc, Nat.cast_mul] at hscaled
    exact (mul_self_inj (by positivity) c.cast_nonneg).mp hscaled
  have hhalves : rootHalves (k * 2 ^ s) = 2 * c :=
    le_antisymm ((rootHalves_le_two_mul_iff _ c).mpr hc.le) ((two_mul_le_rootHalves_iff _ c).mpr hc.ge)
  rw [fsqrt_of_pos hu hk, hroot, hhalves]
  refine RoundedOnce.eq_of_denotes (roundedOnce_roundTo one_pos hq.ne' ?_ (decide_eq_false hq.not_gt)) hr hq.ne'
  rw [abs_of_pos hq, (div_eq_iff (by positivity)).mp hroot_c, zpow_sub_one₀ two_ne_zero]
  push_cast
  ring

/-- The rounding of a stand-in is the rounding of the root: to units of `2^(E−t)` the root is no tie. -/
theorem isRootRounding_of_comparesAsRoot {F : Fmt} {m : RMode} {k r : Nat} {e E : Int} {y : Rat} (hk : k ≠ 0)
    (hprec : k < 2 ^ precision F) (h : ComparesAsRoot (k * 2 ^ e) (2 ^ (E - fracBits F - 1)) y)
    (hr : 2 ^ fracBits F ≤ r) (hround : IsRounding m false (y / 2 ^ (E - fracBits F)) r) :
    IsRootRounding m (k * 2 ^ e) (2 ^ (E - fracBits F)) r ∧
      (r * 2 ^ (E - fracBits F) = y ↔ (r * (2 : Rat) ^ (E - fracBits F)) ^ 2 = k * 2 ^ e) := by
  have hunit : (2 : Rat) ^ (E - fracBits F) = 2 * 2 ^ (E - fracBits F - 1) := by
    rw [← zpow_one_add₀ two_ne_zero, add_sub_cancel]
  have hpos : 0 < 2 ^ fracBits F := by positivity
  obtain ⟨j, rfl⟩ := Nat.exists_eq_add_of_le' (hpos.trans_le hr)
  rw [hunit] at hround ⊢
  refine ⟨h.isRootRounding (by positivity) hround fun c hc => ?_, ?_⟩
  · rw [mul_pow, ← zpow_natCast (2 ^ _), ← zpow_mul]
    exact odd_sq_mul_zpow_ne hk hprec (by omega) (by omega)
  · have hdouble : ((j + 1 : Nat) : Rat) * (2 * 2 ^ (E - fracBits F - 1)) =
        (2 * (j + 1) : Nat) * 2 ^ (E - fracBits F - 1) := by
      rw [← mul_assoc, Nat.cast_mul, Nat.cast_ofNat, mul_comm 2]
    rw [hdouble]
    exact h.eq_iff _

/-- The root of a number of the format lies well within the normal numbers. -/
theorem root_binade_bounds {F : Fmt} {E e L : Int} {i : Nat} (he : e = expMin F + i - fracBits F)
    (hmax : expMin F + i ≤ expMax F) (hL : 0 ≤ L) (hLmax : L ≤ fracBits F) (hlo : 2 * E ≤ L + e)
    (hhi : L + e < 2 * E + 2) : expMin F ≤ E ∧ E < expMax F := by
  cases F <;> simp only [expMin, expMax, expBias, expBits, fracBits] at he hmax hLmax ⊢ <;> omega

/-- A root is rounded from a stand-in that compares as it does with every half unit. -/
theorem fsqrt_of_binade {F : Fmt} (m : RMode) {a : FBits} {x : Rat} {E : Int} (ha : denotes F a x)
    (hlo : (2 : Rat) ^ (2 * E) ≤ x) (hhi : x < (2 : Rat) ^ (2 * E + 2)) :
    let ulp : Rat := (2 : Rat) ^ (E - fracBits F)
    ∃ k : Nat, IsRootRounding m x ulp k ∧ denotes F (fsqrt F m a).1 (k * ulp) ∧
      (fsqrt F m a).2 = flagIf (decide ((k * ulp) ^ 2 ≠ x)) flagNX := by
  obtain ⟨k, e, hk, hu, rfl⟩ := unpack_of_denotes_pos ha ((zpow_pos two_pos _).trans_le hlo)
  obtain ⟨i, he, -, -, hprec, -, hmax⟩ := isFinitePattern_of_unpack ha.1 hu
  obtain ⟨s, h, hs, hh, hroot⟩ := rootOf_eq F m k e
  have hx := inBinade_log2_mul_zpow (Nat.pos_of_ne_zero hk) e
  have hlog : (Nat.log2 k : Int) ≤ fracBits F := by exact_mod_cast log2_le_fracBits (Nat.pos_of_ne_zero hk) hprec
  have hlo' := (hx.zpow_le_iff _).mp hlo
  have hhi' := not_le.mp (mt (hx.zpow_le_iff _).mpr (not_le.mpr hhi))
  obtain ⟨hmin, hover⟩ := root_binade_bounds he hmax (Int.natCast_nonneg _) hlog hlo' hhi'
  have hscale : h ≤ E - fracBits F - 1 := by
    rw [precision] at hs
    omega
  have hcmp := comparesAsRoot_rootHalves (k * 2 ^ s) hscale
  rw [scaled_operand hh] at hcmp
  have hbin : InBinade E ((rootHalves (k * 2 ^ s) : Rat) / (1 : Nat) * 2 ^ (h - 1)) := by
    rw [Nat.cast_one, div_one]
    refine hcmp.inBinade (j := precision F) ?_ hlo hhi
    rw [sub_right_comm, two_pow_precision_units, sub_add_cancel]
  have hnum := num_pos_of_magnitude ((zpow_pos two_pos _).trans_le hbin.1)
  obtain ⟨hrlo, hrhi⟩ := roundAt_significand_bounds (F := F) (m := m) (neg := false) one_pos hbin
  have hround := isRounding_roundAt m false (rootHalves (k * 2 ^ s)) one_pos (h - 1) (E - fracBits F)
  have hinexact := roundAt_inexact m false (rootHalves (k * 2 ^ s)) one_pos (h - 1) (E - fracBits F)
  have hfin : (roundAt m false (rootHalves (k * 2 ^ s)) 1 (h - 1) (E - fracBits F)).1 * 2 ^ (E - fracBits F) <
      (2 : Rat) ^ (expMax F + 1) := by
    calc _ ≤ ((2 ^ precision F : Nat) : Rat) * 2 ^ (E - fracBits F) := by gcongr
      _ = 2 ^ (E + 1) := two_pow_precision_units F E
      _ < 2 ^ (expMax F + 1) := zpow_lt_zpow_right₀ one_lt_two (by omega)
  obtain ⟨hdenotes, hflags⟩ := roundTo_of_normal hnum one_pos hbin hfin ((hbin.zpow_le_iff _).mpr hmin)
  rw [Nat.cast_one, div_one] at hround hinexact
  obtain ⟨hrounding, hexact⟩ := isRootRounding_of_comparesAsRoot hk hprec hcmp hrlo hround
  rw [fsqrt_of_pos hu hk, hroot]
  refine ⟨_, hrounding, hdenotes, ?_⟩
  rw [hflags, hinexact, decide_eq_decide.mpr hexact.not]

/-- Settles O58: each operation delivers its exact rational, and what the format has is its own rounding. -/
theorem exactResults : Obligations.ExactResults := by
  intro F m a b c x y z ha hb hc sa sb sc
  refine ⟨fadd_of_denotes m ha hb, fsub_of_denotes m ha hb, fmul_of_denotes m ha hb, ?quotient,
    fma_of_denotes m ha hb hc, ?zeroRoot, fsqrt_of_neg ha, fun E => fsqrt_of_binade m ha, fun r q hr hq =>
    ⟨(fadd_of_denotes m ha hb).eq_of_denotes hr hq, (fsub_of_denotes m ha hb).eq_of_denotes hr hq,
      (fmul_of_denotes m ha hb).eq_of_denotes hr hq, fun hy => (fdiv_of_denotes m ha hb hy).eq_of_denotes hr hq,
      fun hpos hsq => fsqrt_of_sq m ha hr hpos hsq,
      fun np na => (fma_of_denotes m ha hb hc np na).eq_of_denotes hr hq⟩⟩
  case quotient =>
    split
    case isTrue hy => exact fdiv_of_denotes_zero m ha hb hy
    case isFalse hy =>
      have hdiv := fdiv_of_denotes m ha hb hy
      unfold DeliversExact at hdiv
      simpa only [div_eq_zero_iff, or_iff_left hy] using hdiv
  case zeroRoot =>
    intro hx
    obtain ⟨k, e, hu, hval⟩ := unpack_of_denotes ha
    exact (fsqrt_of_fin hu).trans (if_pos ((ratOf_eq_zero_iff _ _ _).mp (hval.trans hx)))

end Sys2Proof.Machine
end
